-- ==== Sys2Proof/Word.lean ====
section
/-! DEFINITION. The word types of the block (spec/00_scope.md R7, R9; spec/10_state.md R21). -/

namespace Sys2Proof

/-- A byte, `BYTE_W = 8` (R7): every field, both accumulators, `c_data`, `c_sum` and `t_byte`. -/
abbrev Byte := BitVec 8

/-- The 10-bit word of port C, `c_op ∥ c_data` (30_encoding.md R71). -/
abbrev ServiceWord := BitVec 10

/-- The 16-bit word of port L, `b0 ∥ b1`, `CMD_W = 16` (30_encoding.md R72). -/
abbrev LinkWord := BitVec 16

end Sys2Proof
end

