-- ==== Sys2Proof/Syntax.lean ====
section
/-! DEFINITION. The operations of the block and the words that carry them (spec/30_encoding.md R70 to R73, R79). -/

namespace Sys2Proof

/-- The three operation formats, one per port that carries operations (R70). -/
inductive Format where
  /-- Port C, 10 bits. -/
  | c
  /-- Port L, 16 bits. -/
  | l
  /-- Port T, no bits. -/
  | t
  deriving DecidableEq, Repr

/-- The width of a format's word in bits (R70). -/
def Format.width : Format → Nat
  | .c => 10
  | .l => 16
  | .t => 0

/-- An operation as it stands on its port, before decoding (R70). -/
inductive PortWord where
  /-- A 10-bit service word on port C (R71). -/
  | c (w : ServiceWord)
  /-- A 16-bit command word on port L (R72). -/
  | l (w : LinkWord)
  /-- The sink taking a byte on port T; it carries no input bits (R73). -/
  | t
  deriving DecidableEq, Repr

/-- The format of a word is the port it stands on. -/
def PortWord.format : PortWord → Format
  | .c _ => .c
  | .l _ => .l
  | .t => .t

/-- A word's bits as a number, bit 0 the least significant (R9). -/
def PortWord.bits : PortWord → Nat
  | .c w => w.toNat
  | .l w => w.toNat
  | .t => 0

/-- The nine operations, one constructor per row of the opcode map (R79). -/
inductive Instr where
  /-- `CS.CLR` (40_checksum.md R102). -/
  | csClr
  /-- `CS.ADD d` (R103). -/
  | csAdd (d : Byte)
  /-- `CS.RD` (R104). -/
  | csRd
  /-- `CS.VFY e` (R105). -/
  | csVfy (e : Byte)
  /-- `PROBE_READY` (42_command_decode.md R171). -/
  | probeReady
  /-- `REQUEST_TELEMETRY` (R172). -/
  | requestTelemetry
  /-- `PROBE_ALT` (R173). -/
  | probeAlt
  /-- `L.UNREC w` (R174). -/
  | lUnrec (w : LinkWord)
  /-- `TX.EMIT` (R176). -/
  | txEmit
  deriving DecidableEq, Repr

/-- An operation's format (the `format` column of R79). -/
def Instr.format : Instr → Format
  | .csClr => .c
  | .csAdd _ => .c
  | .csRd => .c
  | .csVfy _ => .c
  | .probeReady => .l
  | .requestTelemetry => .l
  | .probeAlt => .l
  | .lUnrec _ => .l
  | .txEmit => .t

/-- An operation's mnemonic (R79). -/
def Instr.mnemonic : Instr → String
  | .csClr => "CS.CLR"
  | .csAdd _ => "CS.ADD"
  | .csRd => "CS.RD"
  | .csVfy _ => "CS.VFY"
  | .probeReady => "PROBE_READY"
  | .requestTelemetry => "REQUEST_TELEMETRY"
  | .probeAlt => "PROBE_ALT"
  | .lUnrec _ => "L.UNREC"
  | .txEmit => "TX.EMIT"

end Sys2Proof
end

