-- ==== Sys2Proof/WellFormed.lean ====
section
/-! DEFINITION. Which terms of `Instr` stand for an operation of the block (spec/30_encoding.md R79, R80). -/

namespace Sys2Proof

/-- The three recognised command words (00_scope.md R7: `OPC_PROBE_READY`, `OPC_REQUEST_TELEMETRY`, `OPC_PROBE_ALT`;
R72). -/
def recognisedWords : List LinkWord := [0x1000#16, 0x2000#16, 0x5000#16]

/-- `L.UNREC` is the default row: it takes every word the three rows above it do not (R79, R80), so it is ill formed over
a recognised word. Every other operation is well formed with every operand (R81). -/
def Instr.wf : Instr → Bool
  | .csClr => true
  | .csAdd _ => true
  | .csRd => true
  | .csVfy _ => true
  | .probeReady => true
  | .requestTelemetry => true
  | .probeAlt => true
  | .lUnrec w => !recognisedWords.contains w
  | .txEmit => true

end Sys2Proof
end

