-- ==== Sys2Proof/Decode.lean ====
section
/-! DEFINITION. Decoding port words into operations and encoding operations into port words
(spec/30_encoding.md R70 to R73, R79 to R81, R84; spec/20_memory.md R52). No word is refused: every word of
every port decodes to exactly one operation (R84). -/

namespace Sys2Proof

/-- `c_op = c_word[9:8]` (R71). -/
def cOp (w : ServiceWord) : BitVec 2 := w.extractLsb' 8 2

/-- `c_data = c_word[7:0]` (R71). -/
def cData (w : ServiceWord) : Byte := w.extractLsb' 0 8

/-- `c_word = c_op ∥ c_data` (R71). -/
def serviceWord (op : BitVec 2) (d : Byte) : ServiceWord :=
  op.setWidth 10 <<< 8 ||| d.setWidth 10

/-- The command word of two received bytes, the first in bits [15:8] (20_memory.md R52). -/
def linkWord (b0 b1 : Byte) : LinkWord :=
  b0.setWidth 16 <<< 8 ||| b1.setWidth 16

/-- `b0 = l_word[15:8]`, the first received byte (R70, R72). -/
def linkFirst (w : LinkWord) : Byte := w.extractLsb' 8 8

/-- `b1 = l_word[7:0]`, the second received byte (R70, R72). -/
def linkSecond (w : LinkWord) : Byte := w.extractLsb' 0 8

/-- Port C: split the word at bit 8 and let `c_op` index R71's table; nothing is refused (R84). -/
def decodeService (w : ServiceWord) : Instr :=
  if cOp w = 0b00#2 then .csClr
  else if cOp w = 0b01#2 then .csAdd (cData w)
  else if cOp w = 0b10#2 then .csRd
  else .csVfy (cData w)

/-- Port L: compare all 16 bits with `0x1000`, `0x2000`, `0x5000` in turn; no match is `L.UNREC` (R84). -/
def decodeLink (w : LinkWord) : Instr :=
  if w = 0x1000#16 then .probeReady
  else if w = 0x2000#16 then .requestTelemetry
  else if w = 0x5000#16 then .probeAlt
  else .lUnrec w

/-- The decoder, total on every port (R84). -/
def decode : PortWord → Instr
  | .c w => decodeService w
  | .l w => decodeLink w
  | .t => .txEmit

/-- The encoder (R71, R72, R73, R79). The don't-care `c_data` of `CS.CLR` and `CS.RD` is written as zero, as R82 writes it
(log entry 14). -/
def encode : Instr → PortWord
  | .csClr => .c (serviceWord 0b00#2 0x00#8)
  | .csAdd d => .c (serviceWord 0b01#2 d)
  | .csRd => .c (serviceWord 0b10#2 0x00#8)
  | .csVfy e => .c (serviceWord 0b11#2 e)
  | .probeReady => .l (linkWord 0x10#8 0x00#8)
  | .requestTelemetry => .l (linkWord 0x20#8 0x00#8)
  | .probeAlt => .l (linkWord 0x50#8 0x00#8)
  | .lUnrec w => .l w
  | .txEmit => .t

/-- A row of the opcode map (R79). -/
structure OpcodeRow where
  mnemonic  : String
  format    : Format
  matchBits : Nat
  maskBits  : Nat
  deriving DecidableEq, Repr

/-- The opcode map, in table order (R79). -/
def opcodeTable : List OpcodeRow :=
  [⟨"CS.CLR", .c, 0x000, 0x300⟩, ⟨"CS.ADD", .c, 0x100, 0x300⟩, ⟨"CS.RD", .c, 0x200, 0x300⟩,
   ⟨"CS.VFY", .c, 0x300, 0x300⟩] ++
  [⟨"PROBE_READY", .l, 0x1000, 0xFFFF⟩, ⟨"REQUEST_TELEMETRY", .l, 0x2000, 0xFFFF⟩,
   ⟨"PROBE_ALT", .l, 0x5000, 0xFFFF⟩, ⟨"L.UNREC", .l, 0x0000, 0x0000⟩] ++
  [⟨"TX.EMIT", .t, 0x0, 0x0⟩]

/-- An input word `w` selects a row of its own format when `(w & mask) = match` (R79). -/
def OpcodeRow.selects (r : OpcodeRow) (p : PortWord) : Bool :=
  r.format == p.format && (p.bits &&& r.maskBits) == r.matchBits

/-- The port word that a row's bits stand for, numbered as spec/opcode_table.json numbers them. The table's bits do not say
on which port a word stands, so the model reads it from the size (log entry 13): no bits are port T's; a value below
`2^10`, in 16 bits or fewer, is the 10-bit word of port C; any other 16-bit value is a word of port L. -/
def tableWord (nbits w : Nat) : Option PortWord :=
  if nbits = 0 then (if w = 0 then some .t else none)
  else if 16 < nbits ∨ 2 ^ nbits ≤ w then none
  else if w < 2 ^ 10 then some (.c (BitVec.ofNat 10 w))
  else some (.l (BitVec.ofNat 16 w))

/-- What the decoder reads from an opcode-table word. -/
def decodeTableWord (nbits w : Nat) : Option Instr := (tableWord nbits w).map decode

end Sys2Proof
end

