-- ==== Sys2Proof/Config.lean ====
section
/-! DEFINITION. The parameters of the block: the fixed ones (spec/00_scope.md R7), the open one `PAD` (R8),
and the model's one free value (log entry 11). `BYTE_W`, `MOD`, `CMD_W`, `COP_W` and `IDX_W` of R7 are the widths of the
types (Word.lean, Decode.lean's `cOp`, State's `idx`); the three opcodes of R7 are WellFormed.lean's `recognisedWords`;
`ROOT_MIN` and `ROOT_MAX` are structural in the one bit `SEL` (10_state.md R24). -/

namespace Sys2Proof

/-- The reply kind `RK`: idle, or which reply is being emitted (10_state.md R26). -/
inductive ReplyKind where
  /-- `NONE`: idle, awaiting next command. -/
  | none
  /-- `READY`: replying to `PROBE_READY`. -/
  | ready
  /-- `TELEM`: replying to `REQUEST_TELEMETRY`. -/
  | telem
  /-- `ALT`: replying to `PROBE_ALT`. -/
  | alt
  deriving DecidableEq, Repr

/-- What one instance of the block fixes when it is built: the ten pad bytes `PAD[0]` .. `PAD[9]` (R8, R136). -/
structure Config where
  pad : Vector Byte 10
  deriving DecidableEq, Repr

namespace Config

/-- `N_DATA` (R7): data bytes in a telemetry frame. -/
def nData : Nat := 51

/-- `FRAME_LEN` (R7): bytes in a telemetry frame, data plus checksum. -/
def frameLen : Nat := 52

/-- `N_NAMED` (R7): named single-byte fields. -/
def nNamed : Nat := 21

/-- `N_INDEP` (R7): named fields that are independent inputs. -/
def nIndep : Nat := 14

/-- `N_FILL` (R7): filler bytes. -/
def nFill : Nat := 20

/-- `N_PAD` (R7): data bytes the source does not account for. -/
def nPad : Nat := 10

/-- `FILL_VALUE` (R7, R135): the value of every filler byte. -/
def fillValue : Byte := 0x02#8

/-- `REPLY_READY` (R7, R171): the one reply byte to `PROBE_READY`. -/
def replyReady : Byte := 0xCD#8

/-- `REPLY_ALT` (R7, R173): the one reply byte to `PROBE_ALT`. -/
def replyAlt : Byte := 0x50#8

/-- The default instance (R8): ten pad bytes of `0x02`. -/
def default : Config := ⟨Vector.replicate 10 0x02#8⟩

/-- FREE VALUE (log entry 11; DESIGN CHOICE: the spec states no value). The byte of a reply kind at an index for
which 42_command_decode.md R175 gives none; 10_state.md R32 makes such an index unreachable. Nothing can be proved of its
value. -/
opaque freeReplyByte : ReplyKind → BitVec 6 → Byte

end Config

end Sys2Proof
end

