-- ==== Sys2Proof/Machine/Checksum.lean ====
section
/-! DEFINITION. The document's two pure functions (spec/40_checksum.md R100, R101). -/

namespace Sys2Proof.Machine

/-- `checksum(bs)`: the sum of the unsigned values of the bytes, modulo 256; `0x00` of the empty sequence (R100). -/
def checksum (bs : List Byte) : Byte := BitVec.ofNat 8 ((bs.map BitVec.toNat).sum % 256)

/-- `verify(bs, e)`: whether `checksum(bs) = e` (R101). -/
def verify (bs : List Byte) (e : Byte) : Bool := checksum bs == e

end Sys2Proof.Machine
end

