-- ==== Sys2Proof/Machine/Frame.lean ====
section
/-! DEFINITION. The telemetry frame as a pure function of the sample and the pads (spec/41_frame_structurer.md R132 to
R140; the field names of spec/10_state.md R23). -/

namespace Sys2Proof.Machine

/-- The 14 independent fields, by the spec's identifiers (10_state.md R23). -/
inductive IndepField where
  | coolantTemp | intakeAirTemp | airFuelRatio | throttlePosition | fuelCutFlag | rpmValue | o2SensorFlag
  | camSensorFlag | faultCode0 | faultCode1 | vehicleSpeed | fuelPressureFlag | milFlag | ftlFlag
  deriving DecidableEq, Repr

/-- The index `k` of a field in `FLD` and on port F (10_state.md R23). -/
def indepIndex : IndepField → Fin 14
  | .coolantTemp => 0
  | .intakeAirTemp => 1
  | .airFuelRatio => 2
  | .throttlePosition => 3
  | .fuelCutFlag => 4
  | .rpmValue => 5
  | .o2SensorFlag => 6
  | .camSensorFlag => 7
  | .faultCode0 => 8
  | .faultCode1 => 9
  | .vehicleSpeed => 10
  | .fuelPressureFlag => 11
  | .milFlag => 12
  | .ftlFlag => 13

/-- The root and the six fields derived from it (R132, R133). -/
inductive DerivedField where
  | rpmGraph | rpmBar | vacuum | massAirFlow | ignitionDegrees | injectorActive | injectorDuty
  deriving DecidableEq, Repr

/-- The value of a derived field as a function of `SEL` (the last column of R133's table; the constants 109 and 7 hold the
rounding, log entry 17). -/
def derivedValue (d : DerivedField) (s : BitVec 1) : Byte :=
  let sel : Byte := s.setWidth 8
  match d with
  | .rpmGraph => 2#8 + sel
  | .rpmBar => 8#8 + sel
  | .vacuum => sel
  | .massAirFlow => 6#8 + sel
  | .ignitionDegrees => 109#8 + 7#8 * sel
  | .injectorActive => 1#8 - sel
  | .injectorDuty => 8#8 * sel

/-- Where a data byte of the frame comes from (the `kind` column of R137). -/
inductive ByteSource where
  /-- An independent field, read from `FLD`. -/
  | indep (f : IndepField)
  /-- A derived field. -/
  | derived (d : DerivedField)
  /-- A filler, the constant `0x02` (R135). -/
  | filler
  /-- A pad, `PAD[j]` (R136). -/
  | pad (j : Fin 10)
  deriving DecidableEq, Repr

/-- Indexes 0..20 of the frame, in the order of R137. -/
def namedLayout : List ByteSource :=
  [.indep .coolantTemp, .indep .intakeAirTemp, .indep .airFuelRatio, .derived .massAirFlow, .indep .throttlePosition,
   .derived .rpmGraph, .derived .rpmBar] ++
  [.indep .fuelCutFlag, .indep .rpmValue, .derived .vacuum, .indep .o2SensorFlag, .indep .camSensorFlag,
   .indep .faultCode0, .indep .faultCode1] ++
  [.indep .vehicleSpeed, .derived .injectorActive, .derived .injectorDuty, .derived .ignitionDegrees,
   .indep .fuelPressureFlag, .indep .milFlag, .indep .ftlFlag]

/-- The frame layout: the source of every data index 0..50 (R137). -/
def layout : List ByteSource :=
  namedLayout ++ List.replicate Config.nFill .filler ++ (List.finRange 10).map .pad

/-- The value a source gives for `FLD = F`, `SEL = s`, `PAD = P` (R137). -/
def sourceValue (F : Vector Byte 14) (s : BitVec 1) (P : Vector Byte 10) : ByteSource → Byte
  | .indep f => F.get (indepIndex f)
  | .derived d => derivedValue d s
  | .filler => Config.fillValue
  | .pad j => P.get j

/-- `data(F, s, P)`, the 51 data bytes (R138). -/
def data (F : Vector Byte 14) (s : BitVec 1) (P : Vector Byte 10) : List Byte := layout.map (sourceValue F s P)

/-- `data(F, s, P)[i]`; asked for `i <= 50` only (R139), and the `0x00` elsewhere is never read. -/
def dataByte (F : Vector Byte 14) (s : BitVec 1) (P : Vector Byte 10) (i : Nat) : Byte := (data F s P).getD i 0x00#8

/-- `frame(F, s, P)`, the data bytes and their checksum (R140). -/
def frame (F : Vector Byte 14) (s : BitVec 1) (P : Vector Byte 10) : List Byte :=
  data F s P ++ [checksum (data F s P)]

end Sys2Proof.Machine
end

