-- ==== Sys2Proof/Machine/State.lean ====
section
/-! DEFINITION. The state of the block (spec/10_state.md R21 to R26), what its environment has on the ports and is going
to present (R20, R34), the reasons a step could stop, and the state after reset (spec/70_reset_and_hazards.md R220). -/

namespace Sys2Proof.Machine

/-- The values on port F: the 14 field inputs and the root select (R21). -/
structure PortF where
  /-- `f_in[0]` .. `f_in[13]`. -/
  fIn  : Vector Byte 14
  /-- `f_sel`. -/
  fSel : BitVec 1
  deriving DecidableEq, Repr

/-- What the environment can do (R20, R34). -/
inductive Event where
  /-- Present an operation on port C or L, or take a byte at port T. -/
  | op (p : PortWord)
  /-- Put new values on port F; the block performs nothing (log entry 10). -/
  | drive (v : PortF)
  /-- Assert `rst` (R221). -/
  | rst
  deriving DecidableEq, Repr

/-- What the output ports present in one step; `none` where the step gives an output no value (R228; log entry 5). -/
structure Outputs where
  /-- `c_sum`: the value of `ACC` after the operation of this step. -/
  cSum   : Option Byte
  /-- `c_match`: the result of `CS.VFY`. -/
  cMatch : Option Bool
  /-- `t_byte`: the reply byte of a `TX.EMIT` step. -/
  tByte  : Option Byte
  /-- `t_last`: 1 on the last byte of a reply. -/
  tLast  : Option Bool
  deriving DecidableEq, Repr

/-- A step that presents nothing. -/
def Outputs.silent : Outputs := ⟨none, none, none, none⟩

/-- The machine: the 137 bits of the block (R22), the instance's constant, and the environment's side. -/
structure State where
  /-- `ACC`, the checksum accumulator of port C. -/
  acc    : Byte
  /-- `FLD[0]` .. `FLD[13]`, the sampled independent fields (R23). -/
  fld    : Vector Byte 14
  /-- `SEL`, the sampled root select (R24). -/
  sel    : BitVec 1
  /-- `RK`, the reply kind (R26). -/
  rk     : ReplyKind
  /-- `IDX`, the index of the next reply byte (R25). -/
  idx    : BitVec 6
  /-- `FACC`, the frame's private accumulator (R31). -/
  facc   : Byte
  /-- The build-time constant `PAD` (R28); no step writes it (log entry 6). -/
  cfg    : Config
  /-- What stands on port F now; the environment's, not the block's (log entry 10). -/
  portF  : PortF
  /-- The events the environment is going to present, the first first; the environment's, not the block's (log entry 1). -/
  agenda : List Event
  /-- What the step just taken presented (log entry 5). -/
  out    : Outputs
  deriving DecidableEq, Repr

/-- Reasons to stop with a fault. There are none: "The block raises no synchronous exception" (60_exceptions.md R190). -/
inductive Fault where
  deriving DecidableEq, Repr

/-- Reasons to refuse. -/
inductive Refusal where
  /-- Raised by an arm of `exec` for an operation without a meaning; no arm does so. Safe: it stops. -/
  | notModelled (mnemonic : String)
  deriving DecidableEq, Repr

/-- The machine right after reset (R220), of the default instance (R8), with an environment that has presented nothing.
`ACC`, `RK`, `IDX` and `FACC` are R220's; the zeros of `FLD` and `SEL` are DESIGN CHOICE (log entries 7 and 8), those of
port F too (log entry 10). -/
def State.reset : State where
  acc    := 0x00#8
  fld    := Vector.replicate 14 0x00#8
  sel    := 0#1
  rk     := .none
  idx    := 0#6
  facc   := 0x00#8
  cfg    := Config.default
  portF  := ⟨Vector.replicate 14 0x00#8, 0#1⟩
  agenda := []
  out    := Outputs.silent

end Sys2Proof.Machine
end

