-- ==== Sys2Proof/Machine/Reply.lean ====
section
/-! DEFINITION. Reply lengths, reply bytes and the big-step reply (spec/10_state.md R26; spec/42_command_decode.md R175,
R177; spec/41_frame_structurer.md R139). -/

namespace Sys2Proof.Machine

/-- The 2-bit code of a reply kind; internal, no port shows it (R26). -/
def replyCode : ReplyKind → BitVec 2
  | .none => 0
  | .ready => 1
  | .telem => 2
  | .alt => 3

/-- `RLEN(k)`, the reply length (R175). -/
def replyLength : ReplyKind → Nat
  | .none => 0
  | .ready => 1
  | .telem => Config.frameLen
  | .alt => 1

/-- The byte of a telemetry reply at the index the state holds: a data byte for `IDX <= 50`, else the accumulator (R139;
log entry 12 for an index over 51). -/
def telemByte (s : State) : Byte :=
  if s.idx.toNat ≤ 50 then dataByte s.fld s.sel s.cfg.pad s.idx.toNat else s.facc

/-- `rbyte(RK, IDX)` (R175). Where R175 gives no byte (a one-byte reply at an index other than 0, `NONE` at any) the byte is
the free value (log entry 11); 10_state.md R32 says no run gets there. -/
def replyByte (s : State) : Byte :=
  match s.rk with
  | .none => Config.freeReplyByte .none s.idx
  | .ready => if s.idx = 0#6 then Config.replyReady else Config.freeReplyByte .ready s.idx
  | .telem => telemByte s
  | .alt => if s.idx = 0#6 then Config.replyAlt else Config.freeReplyByte .alt s.idx

/-- `FACC` after a `TX.EMIT` step: a data byte of a telemetry reply is added modulo 256, anything else leaves it (R139). -/
def nextFacc (s : State) : Byte :=
  if s.rk = .telem ∧ s.idx.toNat ≤ 50 then s.facc + telemByte s else s.facc

/-- `reply(w, F, s)`: the whole reply to the command word `w` (R177). -/
def reply (w : LinkWord) (F : Vector Byte 14) (s : BitVec 1) (P : Vector Byte 10) : List Byte :=
  if w = 0x1000#16 then [Config.replyReady]
  else if w = 0x2000#16 then frame F s P
  else if w = 0x5000#16 then [Config.replyAlt]
  else []

end Sys2Proof.Machine
end

