-- ==== Sys2Proof/Machine/Flags.lean ====
section
/-! DEFINITION. Status outputs and the two per-step flags (spec/10_state.md R27; spec/40_checksum.md R105;
spec/42_command_decode.md R176). The block has no condition code and latches nothing. -/

namespace Sys2Proof.Machine

/-- `t_busy = (RK != NONE)` (R27). -/
def State.tBusy (s : State) : Bool := s.rk != .none

/-- `l_ready = (RK = NONE)` (R27). -/
def State.lReady (s : State) : Bool := s.rk == .none

/-- `c_match = (ACC = e)` of a `CS.VFY e` step (R105). -/
def State.matches (s : State) (e : Byte) : Bool := s.acc == e

/-- `t_last = (IDX + 1 = RLEN(RK))` of a `TX.EMIT` step (R176). -/
def State.lastByte (s : State) : Bool := s.idx.toNat + 1 == replyLength s.rk

end Sys2Proof.Machine
end

