-- ==== Sys2Proof/Machine/Operands.lean ====
section
/-! DEFINITION. The operands of the operations: the byte `c_data`, used as it stands (spec/30_encoding.md R77), and what
`REQUEST_TELEMETRY` samples from port F (spec/00_scope.md R11; spec/41_frame_structurer.md R130, R131). The block has no
other operand form and no addressing mode (spec/20_memory.md R50). -/

namespace Sys2Proof.Machine

/-- The operand of `CS.ADD` and `CS.VFY`: `c_data`, an unsigned byte, no extension, no scaling, no shift (R77). -/
def byteOperand (d : Byte) : Byte := d

/-- `in(k)`, the value on `f_in[k]` at this step (R11). -/
def State.fieldInput (s : State) (k : Fin 14) : Byte := s.portF.fIn.get k

/-- `in_sel`, the value on `f_sel` at this step (R11). -/
def State.rootSelect (s : State) : BitVec 1 := s.portF.fSel

end Sys2Proof.Machine
end

