-- ==== Sys2Proof/Machine/Ops.lean ====
section
/-! DEFINITION. The named operations over the state that the meanings share. There is no memory operation
(spec/20_memory.md R50), and no taking of an exception and no return from one: the block raises none and has no trap entry
and no trap return (spec/60_exceptions.md R190, R195, R196). -/

namespace Sys2Proof.Machine

/-- A step that presents nothing on any output (R228). -/
def State.quiet (s : State) : State := { s with out := Outputs.silent }

/-- `ACC <- v` (40_checksum.md R102, R103). -/
def State.writeAcc (s : State) (v : Byte) : State := { s with acc := v }

/-- `out c_sum = ACC`, the value after the operation (10_state.md R21), with `c_match` where the operation gives it. -/
def State.presentSum (s : State) (m : Option Bool) : State :=
  { s with out := { Outputs.silent with cSum := some s.acc, cMatch := m } }

/-- `out t_byte = b`, `out t_last = last` (42_command_decode.md R176). -/
def State.presentByte (s : State) (b : Byte) (last : Bool) : State :=
  { s with out := { Outputs.silent with tByte := some b, tLast := some last } }

/-- `RK <- k`, `IDX <- 0` (R171, R172, R173). -/
def State.beginReply (s : State) (k : ReplyKind) : State := { s with rk := k, idx := 0#6 }

/-- The field sample: all 14 inputs and the select in one step, and `FACC <- 0x00` (41_frame_structurer.md R131). -/
def State.sampleFields (s : State) : State :=
  { s with fld := Vector.ofFn s.fieldInput, sel := s.rootSelect, facc := 0x00#8 }

/-- Sequencing after a reply byte: `RK <- NONE`, `IDX <- 0` with the last one, else `IDX <- IDX + 1`, in 6 bits (R176;
log entry 12). -/
def State.advance (s : State) (last : Bool) : State :=
  if last then { s with rk := .none, idx := 0#6 } else { s with idx := s.idx + 1#6 }

/-- The effect of a `TX.EMIT` that is enabled (R176 and 41_frame_structurer.md R139). Every right-hand side reads the state
before the step (00_scope.md R10). -/
def State.emit (s : State) : State :=
  ({ s with facc := nextFacc s }.advance s.lastByte).presentByte (replyByte s) s.lastByte

/-- An event that is not enabled has no step: the block is as it was, nothing is presented, and the environment holds the
event, unchanged, as the next thing it will present (R170, R176, R179, 10_state.md R34; log entry 4). -/
def State.hold (s : State) (p : PortWord) : State := { s.quiet with agenda := .op p :: s.agenda }

/-- A port-L event: performed when the block is idle (`l_ready = 1`), held while it is busy (R170). -/
def State.whenIdle (s : State) (w : LinkWord) (k : State → State) : State :=
  if s.lReady then k s else s.hold (.l w)

/-- A port-T event: performed when the block is busy (`t_busy = 1`); when it is idle there is no byte to take (R176). -/
def State.whenBusy (s : State) (k : State → State) : State :=
  if s.tBusy then k s else s.hold .t

/-- Asserting `rst` (70_reset_and_hazards.md R220, R221): the registers take their reset values; `PAD` is unaffected; what
the environment has on port F or is going to present is its own affair (log entry 9). -/
def State.assertReset (s : State) : State :=
  { State.reset with cfg := s.cfg, portF := s.portF, agenda := s.agenda }

end Sys2Proof.Machine
end

