-- ==== Sys2Proof/Machine/Cmd.lean ====
section
/-! DEFINITION. The meanings of the four port-L operations (spec/42_command_decode.md R171 to R174), each enabled only when
the block is idle (R170). -/

namespace Sys2Proof.Machine

/-- `PROBE_READY` (R171). -/
def execProbeReady (s : State) : Host.Outcome State Fault Refusal :=
  .next (s.whenIdle 0x1000#16 fun s => (s.beginReply .ready).quiet)

/-- `REQUEST_TELEMETRY` (R172; its TFS half is 41_frame_structurer.md R131). -/
def execRequestTelemetry (s : State) : Host.Outcome State Fault Refusal :=
  .next (s.whenIdle 0x2000#16 fun s => (s.beginReply .telem).sampleFields.quiet)

/-- `PROBE_ALT` (R173). -/
def execProbeAlt (s : State) : Host.Outcome State Fault Refusal :=
  .next (s.whenIdle 0x5000#16 fun s => (s.beginReply .alt).quiet)

/-- `L.UNREC w` (R174): no state change, no output. -/
def execLUnrec (w : LinkWord) (s : State) : Host.Outcome State Fault Refusal :=
  .next (s.whenIdle w fun s => s.quiet)

end Sys2Proof.Machine
end

