-- ==== Sys2Proof/Machine/Csu.lean ====
section
/-! DEFINITION. The meanings of the four port-C operations (spec/40_checksum.md R102 to R105). Each is enabled in every state,
busy or idle (R111). -/

namespace Sys2Proof.Machine

/-- `CS.CLR` (R102). -/
def execCsClr (s : State) : Host.Outcome State Fault Refusal := .next ((s.writeAcc 0x00#8).presentSum none)

/-- `CS.ADD d` (R103): 8-bit addition that wraps; the carry is recorded nowhere (R107). -/
def execCsAdd (d : Byte) (s : State) : Host.Outcome State Fault Refusal :=
  .next ((s.writeAcc (s.acc + byteOperand d)).presentSum none)

/-- `CS.RD` (R104). -/
def execCsRd (s : State) : Host.Outcome State Fault Refusal := .next (s.presentSum none)

/-- `CS.VFY e` (R105): a mismatch is an answer, not an error (60_exceptions.md R192). -/
def execCsVfy (e : Byte) (s : State) : Host.Outcome State Fault Refusal :=
  .next (s.presentSum (some (s.matches (byteOperand e))))

end Sys2Proof.Machine
end

