-- ==== Sys2Proof/Machine/Tx.lean ====
section
/-! DEFINITION. The meaning of the one port-T operation (spec/42_command_decode.md R176; its TFS half is
spec/41_frame_structurer.md R139). -/

namespace Sys2Proof.Machine

/-- `TX.EMIT` (R176): the sink takes the next reply byte. -/
def execTxEmit (s : State) : Host.Outcome State Fault Refusal := .next (s.whenBusy State.emit)

end Sys2Proof.Machine
end

