-- ==== Sys2Proof/Machine/Dispatch.lean ====
section
/-! DEFINITION. One arm per operation (spec/30_encoding.md R79). -/

namespace Sys2Proof.Machine

/-- What the block does when it performs an operation. -/
def exec (i : Instr) (s : State) : Host.Outcome State Fault Refusal :=
  match i with
  | .csClr => Sys2Proof.Machine.execCsClr s
  | .csAdd d => Sys2Proof.Machine.execCsAdd d s
  | .csRd => Sys2Proof.Machine.execCsRd s
  | .csVfy e => Sys2Proof.Machine.execCsVfy e s
  | .probeReady => Sys2Proof.Machine.execProbeReady s
  | .requestTelemetry => Sys2Proof.Machine.execRequestTelemetry s
  | .probeAlt => Sys2Proof.Machine.execProbeAlt s
  | .lUnrec w => Sys2Proof.Machine.execLUnrec w s
  | .txEmit => Sys2Proof.Machine.execTxEmit s

end Sys2Proof.Machine
end

