-- ==== Sys2Proof/Machine/Schedule.lean ====
section
/-! DEFINITION. How the environment's events reach the block: which are enabled (spec/10_state.md R34;
spec/42_command_decode.md R170, R176), which one comes next, what performing one does, and how the events of one instant are
laid out in order (spec/20_memory.md R59; spec/60_exceptions.md R194; spec/70_reset_and_hazards.md R221). -/

namespace Sys2Proof.Machine

/-- Whether an event has a step now: port C always (40_checksum.md R111), port L when idle (R170), a byte take when busy
(R176), a change of port F and a reset always (10_state.md R34, R221). -/
def State.enables (s : State) : Event → Bool
  | .op (.c _) => true
  | .op (.l _) => s.lReady
  | .op .t => s.tBusy
  | .drive _ => true
  | .rst => true

/-- The first event of an agenda that is enabled, and the agenda without it. The events before it keep their place: the
environment holds them (R170, R179; log entry 2). -/
def State.nextEvent (s : State) : List Event → Option (Event × List Event)
  | [] => none
  | e :: es =>
    if s.enables e then some (e, es)
    else match s.nextEvent es with
      | none => none
      | some (e', rest) => some (e', e :: rest)

/-- Performing an event: an operation is decoded and executed; a change of port F moves only the pins; `rst` resets. -/
def perform (e : Event) (s : State) : Host.Outcome State Fault Refusal :=
  match e with
  | .op p => exec (decode p) s
  | .drive v => .next { s.quiet with portF := v }
  | .rst => .next s.assertReset

/-- The port words an operation stands for, as events. -/
def eventOf (i : Instr) : Event := .op (encode i)

/-- What the environment presents in one instant: at most one event per port (R59), and `rst`. -/
structure Instant where
  rst     : Bool
  service : Option ServiceWord
  link    : Option LinkWord
  take    : Bool
  deriving DecidableEq, Repr

/-- The events of one instant, in order: `rst` overrides every other event of the instant (R221); events on different ports
are taken one after the other, port C first, and any order gives the same (R59, R194; log entry 16). -/
def instantEvents (x : Instant) : List Event :=
  if x.rst then [.rst]
  else
    (match x.service with | some w => [.op (.c w)] | none => []) ++
    (match x.link with | some w => [.op (.l w)] | none => []) ++
    (if x.take then [.op .t] else [])

/-- The operation of an opcode-table word, placed as the next event the environment presents. -/
def placeWord (s : State) (nbits w : Nat) : State :=
  match tableWord nbits w with
  | none => s
  | some p => { s with agenda := .op p :: s.agenda }

/-- One step: the first enabled event is performed. With none enabled the block, idle or busy, stays as it is and presents
nothing: it has no step the environment does not cause (10_state.md R20, R178, R199; log entry 3). -/
def stepEvent (s : State) : Host.Outcome State Fault Refusal :=
  match s.nextEvent s.agenda with
  | none => .next s.quiet
  | some (e, rest) => perform e { s with agenda := rest }

end Sys2Proof.Machine
end

