-- ==== Sys2Proof/Machine/Step.lean ====
section
/-! DEFINITION. The step of the machine and the placing of an operation where the next step takes it (spec/00_scope.md R6;
spec/10_state.md R20). -/

namespace Sys2Proof.Machine

/-- One step of the machine: one event of the environment, performed atomically (R6, 20_memory.md R56). -/
def step (s : State) : Host.Outcome State Fault Refusal := stepEvent s

/-- The state with an opcode-table word as the next event the environment presents: the block fetches nothing, so this stands
for the environment presenting the word on its port (log entries 1 and 13). -/
def State.withFetchWord (s : State) (nbits w : Nat) : State := placeWord s nbits w

end Sys2Proof.Machine
end

