-- ==== Sys2Proof/Machine/Profiles.lean ====
section
/-! DEFINITION. The three message formats and which bytes the checksum covers in each (spec/30_encoding.md R74 to R76, R78;
spec/40_checksum.md R112 to R114; spec/20_memory.md R53). The block neither decodes a BlockRequest nor serves a Block
(spec/42_command_decode.md R180); these are the sequences its CSU is used on. -/

namespace Sys2Proof.Machine

/-- Indexes 0..4 of a BlockRequest (R75). -/
def blockRequestHead (offsetHi : Byte) : List Byte := [0x5A#8, 0x52#8, 0x10#8, 0x00#8, offsetHi]

/-- A BlockRequest, 6 bytes: the checksum byte covers indexes 0..4 and nothing else (R75, R112). -/
def blockRequest (offsetHi : Byte) : List Byte := blockRequestHead offsetHi ++ [checksum (blockRequestHead offsetHi)]

/-- `offset_hi << 8`, the 16-bit read offset (20_memory.md R53). -/
def deviceOffset (offsetHi : Byte) : BitVec 16 := offsetHi.setWidth 16 <<< 8

/-- `offset_hi` of the request for block `n` of a session (R78). -/
def sessionOffset (n : Nat) : Byte := BitVec.ofNat 8 (0x80 + n * 0x10)

/-- Payload bytes of a Block (R76). -/
abbrev blockPayloadLength : Nat := 4096

/-- Bytes of a Block, 4097: the payload and one checksum byte (R76). -/
abbrev blockLength : Nat := blockPayloadLength + 1

/-- A Block as R76 lays it out: the payload at indexes 0..4095, the device-reported checksum, right or wrong, at 4096. -/
def block (payload : Vector Byte blockPayloadLength) (deviceChecksum : Byte) : Vector Byte blockLength :=
  payload.push deviceChecksum

/-- Indexes 0..4095 of a Block (R76). -/
def blockPayload (b : Vector Byte blockLength) : Vector Byte blockPayloadLength := b.pop

/-- Index 4096 of a Block (R76). -/
def blockChecksum (b : Vector Byte blockLength) : Byte := b[blockPayloadLength]

/-- The Block a device sends: its checksum byte is the checksum of its payload (R76, the invariant). -/
def sentBlock (payload : Vector Byte blockPayloadLength) : Vector Byte blockLength := block payload (checksum payload.toList)

/-- What a host reads, a full Block or a short read, is accepted by its last byte. It is accepted, given at least one
byte, when its last byte verifies against the bytes before it (R113); its length is not checked (log entry 20). A read of no
byte gives nothing to test and is not accepted. -/
def blockAccepted (r : List Byte) : Bool :=
  match r.getLast? with
  | none => false
  | some e => verify r.dropLast e

/-- A receiver's check of a telemetry frame (R114): `CS.CHECK t[0] .. t[50], t[51]`. -/
def frameAccepted (t : List Byte) : Bool := t.length == Config.frameLen && verify (t.take Config.nData) (t.getD Config.nData 0x00#8)

end Sys2Proof.Machine
end

