-- ==== Sys2Proof/Machine/Pseudo.lean ====
section
/-! DEFINITION. The pseudo-operations and the text of operations (spec/30_encoding.md R82, R83). -/

namespace Sys2Proof.Machine

/-- `L.WORD w`: the general spelling of a port-L event (R82). -/
def lWord (w : LinkWord) : Instr := decode (.l w)

/-- `CS.SUM b0 .. b(n-1)` (R83). -/
def csSum (bs : List Byte) : List Instr := .csClr :: bs.map .csAdd ++ [.csRd]

/-- `CS.CHECK b0 .. b(n-1), e` (R83). -/
def csCheck (bs : List Byte) (e : Byte) : List Instr := .csClr :: bs.map .csAdd ++ [.csVfy e]

/-- `TX.DRAIN n` (R83). -/
def txDrain (n : Nat) : List Instr := List.replicate n .txEmit

/-- One hexadecimal digit. -/
def hexDigit (n : Nat) : Char := "0123456789ABCDEF".toList.getD n '0'

/-- A value in `k` hexadecimal digits with `0x` (R82). -/
def hexText (k n : Nat) : String :=
  "0x" ++ String.ofList ((List.range k).reverse.map fun j => hexDigit (n / 16 ^ j % 16))

/-- The text of an operation (R82); an unrecognised word is spelt `L.WORD`. -/
def instrText : Instr → String
  | .csClr => "CS.CLR"
  | .csAdd d => "CS.ADD  " ++ hexText 2 d.toNat
  | .csRd => "CS.RD"
  | .csVfy e => "CS.VFY  " ++ hexText 2 e.toNat
  | .probeReady => "PROBE_READY"
  | .requestTelemetry => "REQUEST_TELEMETRY"
  | .probeAlt => "PROBE_ALT"
  | .lUnrec w => "L.WORD  " ++ hexText 4 w.toNat
  | .txEmit => "TX.EMIT"

end Sys2Proof.Machine
end

