-- ==== Sys2Proof/Machine/Observe.lean ====
section
/-! DEFINITION. What the environment sees of a run, and when a run is complete (spec/10_state.md R35). -/

namespace Sys2Proof.Machine

/-- What is observed of one step: the outputs it presents, and `l_ready` and `t_busy` after it (R35). -/
structure Observed where
  out    : Outputs
  lReady : Bool
  tBusy  : Bool
  deriving DecidableEq, Repr

/-- The observation of `k` steps, in order; it ends where a step would stop. -/
def observe : Nat → State → List Observed
  | 0, _ => []
  | k + 1, s =>
    match step s with
    | .next t => ⟨t.out, t.lReady, t.tBusy⟩ :: observe k t
    | .fault _ => []
    | .refused _ => []

/-- The byte and the last-byte mark of a step in which the sink took a byte. -/
def Observed.taken (o : Observed) : Option (Byte × Bool) :=
  match o.out.tByte, o.out.tLast with
  | some b, some l => some (b, l)
  | _, _ => none

/-- The bytes the sink took in `k` steps, each with its `t_last`, in order. -/
def bytesTaken (k : Nat) (s : State) : List (Byte × Bool) := (observe k s).filterMap Observed.taken

/-- A sequence of reply bytes with `t_last = 1` on the final one only (10_state.md R34; 42_command_decode.md R177). -/
def markLast : List Byte → List (Byte × Bool)
  | [] => []
  | [b] => [(b, true)]
  | b :: bs => (b, false) :: markLast bs

/-- The port-C operation an event presents, if it presents one. -/
def serviceInstr : Event → Option Instr
  | .op (.c w) => some (decodeService w)
  | .op (.l _) => none
  | .op .t => none
  | .drive _ => none
  | .rst => none

/-- The events that may stand between a command and the end of its reply without touching the command decoder: a byte take, a
port-C operation, a change of port F (41_frame_structurer.md R141; 42_command_decode.md R177). -/
def besideReply : Event → Bool
  | .op (.c _) => true
  | .op (.l _) => false
  | .op .t => true
  | .drive _ => true
  | .rst => false

/-- A run is complete when it ends in an idle state (R35). -/
def State.complete (s : State) : Bool := s.lReady && s.idx == 0#6

end Sys2Proof.Machine
end

