-- ==== Sys2Proof/Safety.lean ====
section
/-! DEFINITION. What counts as a safe state and a safe run, in the terms the statements use (spec/10_state.md R32;
spec/60_exceptions.md R190, R199). -/

namespace Sys2Proof

open Sys2Proof.Machine

/-- The invariant of 10_state.md R32: (a) idle has `IDX = 0`; (b) a one-byte reply has `IDX = 0`; (c) in a telemetry reply
`IDX <= 51` and `FACC` is the checksum of the data bytes already emitted. -/
abbrev Machine.State.Inv (s : State) : Prop :=
  (s.rk = .none → s.idx = 0#6) ∧
  (s.rk = .ready ∨ s.rk = .alt → s.idx = 0#6) ∧
  (s.rk = .telem → s.idx.toNat ≤ 51 ∧
    s.facc = checksum ((data s.fld s.sel s.cfg.pad).take (min s.idx.toNat 51)))

/-- A run of any length from `s` goes on: no step of it faults or is refused (R190, R199). -/
def Machine.State.Safe (s : State) : Prop := ∀ k, ∃ t, Host.Core.run core k s = .next t

end Sys2Proof
end

