-- ==== Sys2Proof/Certificates/Slice0/Obligations.lean ====
section
/-! DEFINITION. The statements about the machine, each from numbered rules of spec/. A statement about an operation's result
gives the whole next state, so it is the operation's completion and its frame at once. -/

open Sys2Proof Sys2Proof.Machine

/-! ## Encoding -/

/-- Words written out from R71, R72, R73 and R82 decode to the operations they stand for. -/
def Obligations.SampleWordsDecode : Prop :=
  decode (.c 0b0000000000#10) = .csClr ∧
  decode (.c 0b0101011010#10) = .csAdd 0x5A#8 ∧
  decode (.c 0b1000000000#10) = .csRd ∧
  decode (.c 0b1100111100#10) = .csVfy 0x3C#8 ∧
  decode (.l (linkWord 0x10#8 0x00#8)) = .probeReady ∧
  decode (.l (linkWord 0x20#8 0x00#8)) = .requestTelemetry ∧
  decode (.l (linkWord 0x50#8 0x00#8)) = .probeAlt ∧
  decode (.l (linkWord 0xFF#8 0xFF#8)) = .lUnrec 0xFFFF#16 ∧
  decode .t = .txEmit

/-- Encoding drops no bit: every well-formed operation comes back (R79, R84). -/
def Obligations.DecodeOfEncodeIsIdentity : Prop := ∀ i : Instr, i.wf = true → decode (encode i) = i

/-- Decoding loses nothing but the don't-care bits of `CS.CLR` and `CS.RD`, stays on its port and gives a well-formed
operation, for every word of every port (R81, R84). -/
def Obligations.EncodeOfDecodeLosesOnlyDontCareBits : Prop :=
  (∀ p : PortWord, (decode p).wf = true ∧ (decode p).format = p.format) ∧
  (∀ w : ServiceWord, cOp w = 0b00#2 ∨ cOp w = 0b10#2 → encode (decode (.c w)) = .c (serviceWord (cOp w) 0x00#8)) ∧
  (∀ w : ServiceWord, cOp w = 0b01#2 ∨ cOp w = 0b11#2 → encode (decode (.c w)) = .c w) ∧
  (∀ w : LinkWord, encode (decode (.l w)) = .l w) ∧
  encode (decode .t) = .t

/-- The decoder gives every word the operation of the first row of the opcode map that selects it (R79, R84). -/
def Obligations.DecodeFollowsOpcodeMap : Prop :=
  ∀ p : PortWord, (opcodeTable.find? fun r => r.selects p).map OpcodeRow.mnemonic = some (decode p).mnemonic

/-- All four service codes are assigned, every `c_data` is legal, and the data bits of `CS.CLR` and `CS.RD` are don't-care
(R71, R81). -/
def Obligations.EveryServiceWordIsLegal : Prop :=
  ∀ d : Byte,
    decode (.c (serviceWord 0b00#2 d)) = .csClr ∧
    decode (.c (serviceWord 0b01#2 d)) = .csAdd d ∧
    decode (.c (serviceWord 0b10#2 d)) = .csRd ∧
    decode (.c (serviceWord 0b11#2 d)) = .csVfy d

/-- Exactly the words other than the three opcodes decode to `L.UNREC`, and such a word does nothing: no state change, no
output (R80, R174). -/
def Obligations.UnrecognisedWordDoesNothing : Prop :=
  (∀ w : LinkWord, decode (.l w) = .lUnrec w ↔ w ≠ 0x1000#16 ∧ w ≠ 0x2000#16 ∧ w ≠ 0x5000#16) ∧
  ∀ (w : LinkWord) (s : State), s.rk = .none → exec (.lUnrec w) s = .next { s with out := Outputs.silent }

/-! ## Reset -/

/-- The reset values the spec gives, in the state right after power-on and after asserting `rst` in any state, `PAD` unaffected
(R220). Nothing is said of `FLD` and `SEL`, which the spec leaves unspecified and whose zeros are the model's (log entries 7,
8, 9). -/
def Obligations.ResetGivesTheSpecsValues : Prop :=
  (State.reset.acc = 0x00#8 ∧ State.reset.facc = 0x00#8 ∧ State.reset.rk = .none ∧ State.reset.idx = 0#6) ∧
  ∀ s : State, ∃ t, perform .rst s = .next t ∧
    t.acc = 0x00#8 ∧ t.facc = 0x00#8 ∧ t.rk = .none ∧ t.idx = 0#6 ∧ t.cfg = s.cfg

/-- `rst` is enabled in every state and overrides every other event of its instant; straight after it the block is ready, not
busy, presents nothing, and is in the middle of no reply (R221, R222). That the environment's side (port F and the events to
come, a held command among them) is left as it is, is the model's choice (log entry 9). -/
def Obligations.ResetIsEnabledAndOverrides : Prop :=
  (∀ s : State, s.enables .rst = true ∧ ∃ t, perform .rst s = .next t ∧
    t.lReady = true ∧ t.tBusy = false ∧ t.out = Outputs.silent ∧ t.complete = true ∧ t.enables (.op .t) = false ∧
    t.portF = s.portF ∧ t.agenda = s.agenda) ∧
  ∀ x : Instant, x.rst = true → instantEvents x = [.rst]

/-- The reset state meets the invariant of R32. -/
def Obligations.ResetMeetsInvariant : Prop := State.reset.Inv

/-! ## The step -/

/-- The next event is the first enabled one; events before it are held in their places (R170, R176, R179; log entry 2). -/
def Obligations.StepPerformsTheFirstEnabledEvent : Prop :=
  ∀ (s : State) (pre post : List Event) (e : Event),
    s.agenda = pre ++ e :: post → (∀ x ∈ pre, s.enables x = false) → s.enables e = true →
    step s = perform e { s with agenda := pre ++ post }

/-- The word the environment presents next, when enabled, is decoded and executed; its event leaves the agenda first. -/
def Obligations.StepRunsTheDecodedOperation : Prop :=
  (∀ (s : State) (p : PortWord) (rest : List Event),
    s.agenda = .op p :: rest → s.enables (.op p) = true → step s = exec (decode p) { s with agenda := rest }) ∧
  ∀ (s : State) (i : Instr) (rest : List Event),
    i.wf = true → s.agenda = eventOf i :: rest → s.enables (eventOf i) = true →
    step s = exec i { s with agenda := rest }

/-- An opcode-table word placed as the next event is the operation the very next step executes, whenever the operation is
enabled (log entries 1 and 13). -/
def Obligations.PlacedTableWordRunsNext : Prop :=
  ∀ (s : State) (nbits w : Nat) (i : Instr),
    decodeTableWord nbits w = some i → (i.format = .l → s.rk = .none) → (i.format = .t → s.rk ≠ .none) →
    step (s.withFetchWord nbits w) = exec i s

/-- With no event enabled the machine, idle or busy, stays as it is (R20, R178, R199; log entry 3). -/
def Obligations.NothingEnabledNothingHappens : Prop :=
  ∀ s : State, (∀ e ∈ s.agenda, s.enables e = false) → step s = .next { s with out := Outputs.silent }

/-- Every operation, in any state and with any operand, has a next state; so has every step; so no run ever stops. For an
enabled operation this is R190 and R199; that an operation which is not enabled answers a next state (log entry 4) and that a
step with nothing enabled does (log entry 3) is the model's choice. -/
def Obligations.NothingEverFaults : Prop :=
  (∀ (i : Instr) (s : State), ∃ t, exec i s = .next t) ∧ (∀ s : State, ∃ t, step s = .next t) ∧ ∀ s : State, s.Safe

/-- Every step keeps the invariant of R32. -/
def Obligations.StepKeepsInvariant : Prop := ∀ s t : State, s.Inv → step s = .next t → t.Inv

/-- The environment can change port F in any state; the pins take the new values and the block performs nothing: every register,
the events to come and `PAD` are as they were, and nothing is presented (R34). That the change is an event of its own is the
model's choice (log entry 10). -/
def Obligations.DrivingPortFMovesOnlyThePins : Prop :=
  ∀ (v : PortF) (s : State), s.enables (.drive v) = true ∧
    perform (.drive v) s = .next { s with portF := v, out := Outputs.silent }

/-! ## Port C -/

/-- `CS.CLR` (R102). -/
def Obligations.ClearResult : Prop :=
  (∀ d : Byte, decode (.c (serviceWord 0b00#2 d)) = .csClr) ∧
  ∀ s : State, exec .csClr s = .next { s with acc := 0x00#8, out := ⟨some 0x00#8, none, none, none⟩ }

/-- `CS.ADD d` (R103). -/
def Obligations.AddResult : Prop :=
  (∀ d : Byte, decode (.c (serviceWord 0b01#2 d)) = .csAdd d) ∧
  ∀ (d : Byte) (s : State), ∃ v : Byte, v.toNat = (s.acc.toNat + d.toNat) % 256 ∧
    exec (.csAdd d) s = .next { s with acc := v, out := ⟨some v, none, none, none⟩ }

/-- `CS.RD` (R104). -/
def Obligations.ReadResult : Prop :=
  (∀ d : Byte, decode (.c (serviceWord 0b10#2 d)) = .csRd) ∧
  ∀ s : State, exec .csRd s = .next { s with out := ⟨some s.acc, none, none, none⟩ }

/-- `CS.VFY e` (R105). -/
def Obligations.VerifyResult : Prop :=
  (∀ e : Byte, decode (.c (serviceWord 0b11#2 e)) = .csVfy e) ∧
  ∀ (e : Byte) (s : State), ∃ m : Bool, (m = true ↔ s.acc = e) ∧
    exec (.csVfy e) s = .next { s with out := ⟨some s.acc, some m, none, none⟩ }

/-! ## Ports L and T -/

/-- `PROBE_READY` on an idle block, and the one `TX.EMIT` its reply leaves through (R171). -/
def Obligations.ProbeReadyResult : Prop :=
  decode (.l 0x1000#16) = .probeReady ∧
  ∀ s : State, s.rk = .none →
    exec .probeReady s = .next { s with rk := .ready, idx := 0#6, out := Outputs.silent } ∧
    exec .txEmit { s with rk := .ready, idx := 0#6, out := Outputs.silent } =
      .next { s with rk := .none, idx := 0#6, out := ⟨none, none, some 0xCD#8, some true⟩ }

/-- `PROBE_ALT` on an idle block, and the one `TX.EMIT` its reply leaves through (R173). -/
def Obligations.ProbeAltResult : Prop :=
  decode (.l 0x5000#16) = .probeAlt ∧
  ∀ s : State, s.rk = .none →
    exec .probeAlt s = .next { s with rk := .alt, idx := 0#6, out := Outputs.silent } ∧
    exec .txEmit { s with rk := .alt, idx := 0#6, out := Outputs.silent } =
      .next { s with rk := .none, idx := 0#6, out := ⟨none, none, some 0x50#8, some true⟩ }

/-- `REQUEST_TELEMETRY` on an idle block samples all of port F (R172, R131). -/
def Obligations.RequestTelemetryResult : Prop :=
  decode (.l 0x2000#16) = .requestTelemetry ∧
  ∀ s : State, s.rk = .none →
    exec .requestTelemetry s = .next { s with
      rk := .telem, idx := 0#6, fld := s.portF.fIn, sel := s.portF.fSel, facc := 0x00#8, out := Outputs.silent }

/-- A command presented while the block is busy, and a byte take presented while it is idle, have no step: nothing of the
block changes, nothing is presented, and the event stays with the environment (R170, R176; the form of the wait is the model's,
log entry 4). -/
def Obligations.EventThatIsNotEnabledIsHeld : Prop :=
  (∀ (i : Instr) (s : State), i.wf = true → i.format = .l → s.rk ≠ .none →
    exec i s = .next { s with out := Outputs.silent, agenda := eventOf i :: s.agenda }) ∧
  ∀ s : State, s.rk = .none →
    exec .txEmit s = .next { s with out := Outputs.silent, agenda := .op .t :: s.agenda }

/-- `TX.EMIT` in a telemetry reply: a data byte is presented and added to `FACC`, then the accumulator itself is the 52nd byte
(R139, R176). -/
def Obligations.EmitTelemetryByte : Prop :=
  ∀ s : State, s.rk = .telem →
    (s.idx.toNat ≤ 50 → ∃ b v : Byte, (data s.fld s.sel s.cfg.pad)[s.idx.toNat]? = some b ∧
      v.toNat = (s.facc.toNat + b.toNat) % 256 ∧
      exec .txEmit s =
        .next { s with idx := s.idx + 1#6, facc := v, out := ⟨none, none, some b, some false⟩ }) ∧
    (s.idx = 51#6 → exec .txEmit s =
      .next { s with rk := .none, idx := 0#6, out := ⟨none, none, some s.facc, some true⟩ })

/-- `TX.EMIT` on a busy block, and the reply lengths and bytes (R175, R176): the byte of R175 is presented, `t_last` is
`IDX + 1 = RLEN(RK)`, the last byte returns the block to idle with `IDX = 0`, any other adds 1 to `IDX`; nothing else changes,
`FACC` apart. On an idle block it has no step. In the busy states that 10_state.md R32 rules out, completion with a byte
(`READY`, `ALT` at another index: log entry 11) and the sequencing (`TELEM` over 51, the wrap at 63: log entry 12) are the
model's choice. -/
def Obligations.EmitResult : Prop :=
  (replyLength .none = 0 ∧ replyLength .ready = 1 ∧ replyLength .telem = 52 ∧ replyLength .alt = 1) ∧
  (∀ s : State, s.rk ≠ .none → ∃ (t : State) (b : Byte) (l : Bool), exec .txEmit s = .next t ∧
    t = { s with rk := t.rk, idx := t.idx, facc := t.facc, out := ⟨none, none, some b, some l⟩ } ∧
    (s.rk = .ready → s.idx = 0#6 → b = 0xCD#8) ∧
    (s.rk = .alt → s.idx = 0#6 → b = 0x50#8) ∧
    (s.rk = .telem → s.idx.toNat ≤ 50 → (data s.fld s.sel s.cfg.pad)[s.idx.toNat]? = some b ∧ t.facc = s.facc + b) ∧
    (s.rk = .telem → s.idx = 51#6 → b = s.facc ∧ t.facc = s.facc) ∧
    (s.rk ≠ .telem → t.facc = s.facc) ∧
    (l = true ↔ s.idx.toNat + 1 = replyLength s.rk) ∧
    (l = true → t.rk = .none ∧ t.idx = 0#6) ∧
    (l = false → t.rk = s.rk ∧ t.idx = s.idx + 1#6)) ∧
  ∀ s : State, s.enables (.op .t) = true ↔ s.rk ≠ .none

/-! ## Whole-machine rules -/

/-- The two accumulators are separate: operations of ports L and T neither write `ACC` nor depend on it, those of port C
neither write `FACC` nor depend on it (R31). -/
def Obligations.AccumulatorsAreSeparate : Prop :=
  (∀ (i : Instr) (s t : State) (a : Byte), i.format ≠ .c → exec i s = .next t →
    t.acc = s.acc ∧ exec i { s with acc := a } = .next { t with acc := a }) ∧
  ∀ (i : Instr) (s t : State) (a : Byte), i.format = .c → exec i s = .next t →
    t.facc = s.facc ∧ exec i { s with facc := a } = .next { t with facc := a }

/-- A port-C operation and an operation of another port commute: same state, same outputs (R59). Where the other operation is
not enabled (a command while busy, a take while idle), R59 performs nothing, and its next state is the model's choice (log
entry 4). -/
def Obligations.OperationsOfDifferentUnitsCommute : Prop :=
  ∀ (w : ServiceWord) (p : PortWord) (s : State), p.format ≠ .c →
    ∃ c cp q qc : State,
      exec (decode (.c w)) s = .next c ∧ exec (decode p) c = .next cp ∧
      exec (decode p) s = .next q ∧ exec (decode (.c w)) q = .next qc ∧
      c.out = qc.out ∧ cp.out = q.out ∧ { cp with out := Outputs.silent } = { qc with out := Outputs.silent }

/-- The step that accepts a `REQUEST_TELEMETRY` samples the 14 fields and the root select and clears `FACC`; no other operation
writes a field or the select (R131). -/
def Obligations.FieldsAreSampledByRequestOnly : Prop :=
  (∀ s : State, s.rk = .none → ∃ t, exec .requestTelemetry s = .next t ∧
    (∀ k : Fin 14, t.fld.get k = s.portF.fIn.get k) ∧ t.sel = s.portF.fSel ∧ t.facc = 0x00#8) ∧
  ∀ (i : Instr) (s t : State), exec i s = .next t → t.fld ≠ s.fld ∨ t.sel ≠ s.sel → i = .requestTelemetry ∧ s.rk = .none

/-- No step, reset included, writes the build-time constant `PAD` (R28, R61, R220). -/
def Obligations.NoStepWritesThePads : Prop := ∀ s t : State, step s = .next t → t.cfg = s.cfg

/-- Control flow: only a recognised command leaves the idle state, only the last byte of a reply returns to it, and no
operation goes from one reply to another (R178). -/
def Obligations.ControlFlowOfReplies : Prop :=
  ∀ (i : Instr) (s t : State), exec i s = .next t → t.rk ≠ s.rk →
    (s.rk = .none ∧ t.idx = 0#6 ∧
      ((i = .probeReady ∧ t.rk = .ready) ∨ (i = .requestTelemetry ∧ t.rk = .telem) ∨ (i = .probeAlt ∧ t.rk = .alt))) ∨
    (s.rk ≠ .none ∧ i = .txEmit ∧ s.idx.toNat + 1 = replyLength s.rk ∧ t.rk = .none ∧ t.idx = 0#6)

/-- Outputs have a value in their own step only, and a change of port F or a reset presents nothing: `c_match` in a `CS.VFY` step, `t_byte` and `t_last` in a `TX.EMIT` step,
`c_sum` in every port-C step and equal to `ACC` after it (R21, R228). -/
def Obligations.OutputsOnlyInTheirOwnStep : Prop :=
  (∀ (v : PortF) (s t : State), perform (.drive v) s = .next t ∨ perform .rst s = .next t → t.out = Outputs.silent) ∧
  ∀ (i : Instr) (s t : State), exec i s = .next t →
    (t.out.cMatch ≠ none ↔ ∃ e, i = .csVfy e) ∧
    (t.out.tByte ≠ none ↔ i = .txEmit ∧ s.rk ≠ .none) ∧
    (t.out.tLast ≠ none ↔ i = .txEmit ∧ s.rk ≠ .none) ∧
    t.out.cSum = if i.format = .c then some t.acc else none

/-- `t_busy` and `l_ready` are functions of `RK`, always complementary (R27), so a command and a byte take are never both
enabled (R194). -/
def Obligations.StatusOutputsFollowTheReplyKind : Prop :=
  ∀ s : State, (s.tBusy = true ↔ s.rk ≠ .none) ∧ (s.lReady = true ↔ s.rk = .none) ∧ s.lReady = !s.tBusy ∧
    ∀ w : LinkWord, s.enables (.op (.l w)) ≠ s.enables (.op .t)

/-- The fields, the select and `FACC` cannot be observed outside a telemetry reply: whatever they hold, every run shows the
same (R30, R33). In particular the values the model gives `FLD` and `SEL` at reset show nowhere. -/
def Obligations.HiddenStateIsDeadBetweenFrames : Prop :=
  ∀ (k : Nat) (s : State) (F : Vector Byte 14) (b : BitVec 1) (a : Byte), s.rk ≠ .telem →
    observe k { s with fld := F, sel := b, facc := a } = observe k s

/-! ## The checksum -/

/-- `checksum` is the sum of the unsigned bytes modulo 256, and `verify` compares it (R100, R101). -/
def Obligations.ChecksumIsTheSumModulo256 : Prop :=
  checksum [] = 0x00#8 ∧ ∀ bs : List Byte, (checksum bs).toNat = (bs.map BitVec.toNat).sum % 256 ∧
    ∀ e : Byte, (verify bs e = true ↔ checksum bs = e)

/-- Every sequence verifies against its own checksum and against no other byte (R109). -/
def Obligations.ChecksumIsSelfConsistent : Prop :=
  ∀ bs : List Byte, verify bs (checksum bs) = true ∧ ∀ e : Byte, e ≠ checksum bs → verify bs e = false

/-- Homomorphism, invariance under permutation, and reducing at every addition against once at the end (R108). -/
def Obligations.ChecksumIsAHomomorphism : Prop :=
  (∀ as bs : List Byte, checksum (as ++ bs) = checksum as + checksum bs) ∧
  (∀ as bs : List Byte, as.Perm bs → checksum as = checksum bs) ∧
  ∀ (a : Byte) (bs : List Byte), bs.foldl (· + ·) a = a + checksum bs

/-- What the checksum does not promise (R110): a message with its checksum does not sum to zero but to twice it; swapped bytes,
a compensated change, an inserted `0x00` and 256 bytes all raised by one pass. -/
def Obligations.ChecksumMissesCompensatedChanges : Prop :=
  (∀ bs : List Byte, (checksum (bs ++ [checksum bs])).toNat = 2 * (checksum bs).toNat % 256) ∧
  (∀ (as bs cs : List Byte) (x y : Byte), checksum (as ++ x :: bs ++ y :: cs) = checksum (as ++ y :: bs ++ x :: cs)) ∧
  (∀ (as bs cs : List Byte) (x y k : Byte),
    checksum (as ++ (x + k) :: bs ++ (y - k) :: cs) = checksum (as ++ x :: bs ++ y :: cs)) ∧
  (∀ as bs : List Byte, checksum (as ++ 0x00#8 :: bs) = checksum (as ++ bs)) ∧
  (∀ bs : List Byte, bs.length = 256 → checksum (bs.map (· + 1#8)) = checksum bs) ∧
  verify [] 0x00#8 = true

/-- The streaming theorem (R106): whatever happens on ports L, T and F in between, the bytes fed by `CS.ADD` add up in `ACC`;
after a `CS.CLR` the result is their checksum. -/
def Obligations.StreamedBytesAddUpInAcc : Prop :=
  ∀ (s : State) (bs : List Byte), (∀ e ∈ s.agenda, e ≠ .rst) →
    (s.agenda.filterMap serviceInstr = bs.map .csAdd →
      ∃ t, Host.Core.run core s.agenda.length s = .next t ∧ t.acc = s.acc + checksum bs ∧
        t.agenda.filterMap serviceInstr = []) ∧
    (s.agenda.filterMap serviceInstr = .csClr :: bs.map .csAdd →
      ∃ t, Host.Core.run core s.agenda.length s = .next t ∧ t.acc = checksum bs ∧
        t.agenda.filterMap serviceInstr = [])

/-- `CS.SUM` presents the checksum of its bytes and `CS.CHECK` the document's `verify`, from any state (R83, R106). -/
def Obligations.SumAndCheckComputeTheFunctions : Prop :=
  ∀ (s : State) (bs : List Byte) (e : Byte),
    (s.agenda = (csSum bs).map eventOf →
      Host.Core.run core (bs.length + 2) s = .next { s with
        acc := checksum bs, agenda := [], out := ⟨some (checksum bs), none, none, none⟩ }) ∧
    (s.agenda = (csCheck bs e).map eventOf →
      Host.Core.run core (bs.length + 2) s = .next { s with
        acc := checksum bs, agenda := [], out := ⟨some (checksum bs), some (verify bs e), none, none⟩ })

/-- The checksum byte of a BlockRequest covers its five other bytes, `0xBC + offset_hi`; the eight requests of a session
(R112). -/
def Obligations.BlockRequestChecksum : Prop :=
  (∀ o : Byte, blockRequest o = [0x5A#8, 0x52#8, 0x10#8, 0x00#8, o, 0xBC#8 + o]) ∧
  (List.range 8).map (fun n => checksum (blockRequestHead (sessionOffset n))) =
    [0x3C#8, 0x4C#8, 0x5C#8, 0x6C#8, 0x7C#8, 0x8C#8, 0x9C#8, 0xAC#8]

/-- The stale-slot hazard (R226): summing the whole reused buffer adds the old checksum to the new one. -/
def Obligations.StaleSlotLeaksIntoTheSum : Prop :=
  ∀ old new : Byte, checksum (blockRequestHead new ++ [checksum (blockRequestHead old)]) =
    checksum (blockRequestHead new) + checksum (blockRequestHead old)

/-- A received block and a received frame of 52 bytes are accepted exactly when their last byte verifies against the bytes
before it (R113, R114); so what the sender's own checksum ends is accepted. That nothing of another length is accepted as a
frame is the model's choice (log entry 20). -/
def Obligations.ReceivedMessagesAreCheckedByTheirLastByte : Prop :=
  (∀ (payload : List Byte) (e : Byte), blockAccepted (payload ++ [e]) = verify payload e) ∧
  (∀ payload : List Byte, blockAccepted (payload ++ [checksum payload]) = true) ∧
  (∀ t : List Byte, t.length = 52 → ∃ e : Byte, t[51]? = some e ∧
    (frameAccepted t = true ↔ verify (t.take 51) e = true)) ∧
  (∀ t : List Byte, t.length ≠ 52 → frameAccepted t = false) ∧
  ∀ (F : Vector Byte 14) (s : BitVec 1) (P : Vector Byte 10), frameAccepted (frame F s P) = true

/-- A Block has 4097 bytes, the payload at indexes 0..4095 and the device-reported checksum at 4096; any 4097 bytes are read
so; they are accepted exactly when the invariant of R76 holds of them, as the Block a device sends does (R76, R113). -/
def Obligations.BlockLayoutAndInvariant : Prop :=
  (∀ (payload : Vector Byte 4096) (e : Byte), (block payload e).toList.length = 4097 ∧
    (∀ i : Fin 4096, (block payload e).toList[i.val]? = some payload[i]) ∧ (block payload e).toList[4096]? = some e ∧
    blockPayload (block payload e) = payload ∧ blockChecksum (block payload e) = e) ∧
  (∀ b : Vector Byte 4097, block (blockPayload b) (blockChecksum b) = b ∧
    (blockAccepted b.toList = true ↔
      (blockChecksum b).toNat = ((blockPayload b).toList.map BitVec.toNat).sum % 256)) ∧
  ∀ payload : Vector Byte 4096, blockPayload (sentBlock payload) = payload ∧ blockAccepted (sentBlock payload).toList = true

/-! ## The frame -/

/-- The document's relations among the derived fields, and their range, which R134 derives from R133 (R132, R133, R134). That
`round` is to the nearest integer, halves up, written `(666 x + 50) / 100`, is the model's reading (log entry 17, DEDUCED). -/
def Obligations.DerivedFieldRelations : Prop :=
  ∀ s : BitVec 1,
    (derivedValue .rpmGraph s).toNat = 2 + s.toNat ∧
    (derivedValue .rpmBar s).toNat = (derivedValue .rpmGraph s).toNat + 6 ∧
    (derivedValue .vacuum s).toNat + 2 = (derivedValue .rpmGraph s).toNat ∧
    (derivedValue .massAirFlow s).toNat = (derivedValue .vacuum s).toNat + 6 ∧
    (derivedValue .ignitionDegrees s).toNat = 96 + (666 * (derivedValue .rpmGraph s).toNat + 50) / 100 ∧
    derivedValue .injectorActive s = (if derivedValue .vacuum s = 0x00#8 then 0x01#8 else 0x00#8) ∧
    (derivedValue .injectorDuty s).toNat = (derivedValue .vacuum s).toNat * 8 ∧
    ∀ d : DerivedField, (derivedValue d s).toNat ≤ 116

/-- The 51 data bytes written out as R138 writes them (R137, R138). -/
def Obligations.FrameDataWrittenOut : Prop :=
  ∀ (F : Vector Byte 14) (s : BitVec 1) (P : Vector Byte 10),
    data F s P =
      [F[0], F[1], F[2], 6 + s.setWidth 8, F[3], 2 + s.setWidth 8, 8 + s.setWidth 8, F[4], F[5], s.setWidth 8] ++
      [F[6], F[7], F[8], F[9], F[10], 1 - s.setWidth 8, 8 * s.setWidth 8, 109 + 7 * s.setWidth 8, F[11], F[12], F[13]] ++
      List.replicate 20 0x02#8 ++ P.toList

/-- The document's testable property of every frame, in the spec's indexes (R142), and the two families (R143). -/
def Obligations.EveryFrameIsConsistent : Prop :=
  ∀ (F : Vector Byte 14) (s : BitVec 1) (P : Vector Byte 10) (t : List Byte), t = frame F s P →
    t.length = 52 ∧ t[51]? = some (checksum (t.take 51)) ∧
    (∀ i, 21 ≤ i → i ≤ 40 → t[i]? = some 0x02#8) ∧
    ([3, 5, 6, 9, 15, 16, 17].map fun i => t[i]?) =
      if s = 0#1 then [0x06#8, 0x02#8, 0x08#8, 0x00#8, 0x01#8, 0x00#8, 0x6D#8].map some
      else [0x07#8, 0x03#8, 0x09#8, 0x01#8, 0x00#8, 0x08#8, 0x74#8].map some

/-- The closed form of the checksum byte, for every `PAD` (R140). -/
def Obligations.FrameChecksumClosedForm : Prop :=
  ∀ (F : Vector Byte 14) (s : BitVec 1) (P : Vector Byte 10), ∃ v : Byte, (frame F s P)[51]? = some v ∧
    v.toNat = ((F.toList.map BitVec.toNat).sum + 126 + 18 * s.toNat + 40 + (P.toList.map BitVec.toNat).sum) % 256

/-- The reply theorem and, with `w = 0x2000`, the emission theorem (R177, R141): from an idle state, a command word followed by
exactly as many byte takes as its reply has bytes, with port-C operations and changes of port F anywhere between, presents the
bytes of `reply` in order with `t_last` on the last one only, and leaves the block idle. -/
def Obligations.ReplyToEveryCommandWord : Prop :=
  ∀ (s : State) (w : LinkWord) (es : List Event) (r : List Byte),
    s.rk = .none → s.idx = 0#6 → s.agenda = .op (.l w) :: es →
    r = reply w s.portF.fIn s.portF.fSel s.cfg.pad →
    (∀ e ∈ es, besideReply e = true) → es.count (.op .t) = r.length →
    bytesTaken (es.length + 1) s = markLast r ∧
    ∃ t, Host.Core.run core (es.length + 1) s = .next t ∧ t.complete = true ∧ t.agenda = [] ∧
      t.enables (.op .t) = false

/-- What lifts the busy hold (R179): after `RLEN(RK) - IDX` byte takes, and no fewer, the block is idle; the command held
meanwhile is still there, unchanged, and the next step performs it. -/
def Obligations.BusyHoldIsLiftedByTheSink : Prop :=
  ∀ (s : State) (w : LinkWord) (n : Nat), s.Inv → s.rk ≠ .none → n = replyLength s.rk - s.idx.toNat →
    s.agenda = .op (.l w) :: List.replicate n (.op .t) →
    (∀ k, k < n → ∃ t, Host.Core.run core k s = .next t ∧ t.rk = s.rk ∧
      t.agenda = .op (.l w) :: List.replicate (n - k) (.op .t)) ∧
    ∃ t, Host.Core.run core n s = .next t ∧ t.rk = .none ∧ t.idx = 0#6 ∧ t.agenda = [.op (.l w)] ∧
      step t = exec (decode (.l w)) { t with agenda := [] }
end

