-- ==== Sys2Proof/Laws/Checksum.lean ====
section
/-! SUPPORT. The defining equations of `checksum`, byte by byte (spec/40_checksum.md R100). -/

namespace Sys2Proof.Machine

@[simp] theorem checksum_nil : checksum [] = 0x00#8 := rfl

/-- Reducing after every addition or once at the end gives the same byte. -/
@[simp] theorem checksum_cons (b : Byte) (bs : List Byte) : checksum (b :: bs) = b + checksum bs := by
  apply BitVec.eq_of_toNat_eq
  simp [checksum, BitVec.toNat_add, Nat.add_mod]

/-- `verify` decides equality with the checksum (R101). -/
theorem verify_iff (bs : List Byte) (e : Byte) : verify bs e = true ↔ checksum bs = e := by
  simp [verify]

end Sys2Proof.Machine
end

