-- ==== Sys2Proof/Laws/Decode.lean ====
section
/-! SUPPORT. Packing and unpacking of the port words (spec/30_encoding.md R71, R72; spec/20_memory.md R52). -/

namespace Sys2Proof

@[simp] theorem cOp_serviceWord (op : BitVec 2) (d : Byte) : cOp (serviceWord op d) = op := by
  revert op d
  decide

@[simp] theorem cData_serviceWord (op : BitVec 2) (d : Byte) : cData (serviceWord op d) = d := by
  revert op d
  decide

@[simp] theorem serviceWord_cOp_cData (w : ServiceWord) : serviceWord (cOp w) (cData w) = w := by
  revert w
  decide

@[simp] theorem linkFirst_linkWord (b0 b1 : Byte) : linkFirst (linkWord b0 b1) = b0 := by
  ext i hi
  simp [linkFirst, linkWord, hi, show 8 + i < 16 by omega, BitVec.getLsbD_eq_getElem]

@[simp] theorem linkSecond_linkWord (b0 b1 : Byte) : linkSecond (linkWord b0 b1) = b1 := by
  ext i hi
  simp [linkSecond, linkWord, hi, show i < 16 by omega, BitVec.getLsbD_eq_getElem]

/-- A code other than the three named ones is the fourth (R71: "All four codes are assigned"). -/
theorem cOp_cases (w : ServiceWord) : cOp w = 0b00#2 ∨ cOp w = 0b01#2 ∨ cOp w = 0b10#2 ∨ cOp w = 0b11#2 := by
  generalize cOp w = op
  revert op
  decide

end Sys2Proof
end

