-- ==== Sys2Proof/Laws/Frame.lean ====
section
/-! SUPPORT. Lengths and bytes of the frame (spec/41_frame_structurer.md R137, R138, R140). -/

namespace Sys2Proof.Machine

@[simp] theorem layout_length : layout.length = 51 := by decide

/-- The counts of 00_scope.md R7: 21 named, 20 fillers, 10 pads make 51, and with the checksum 52. -/
theorem layout_counts :
    namedLayout.length = Config.nNamed ∧ (layout.count .filler) = Config.nFill ∧
    Config.nNamed + Config.nFill + Config.nPad = Config.nData ∧ Config.nData + 1 = Config.frameLen := by decide

@[simp] theorem data_length (F : Vector Byte 14) (s : BitVec 1) (P : Vector Byte 10) : (data F s P).length = 51 := by
  simp [data]

@[simp] theorem frame_length (F : Vector Byte 14) (s : BitVec 1) (P : Vector Byte 10) : (frame F s P).length = 52 := by
  simp [frame]

/-- At a data index `dataByte` is the byte of `data`; the value it has elsewhere is not used. -/
theorem dataByte_eq (F : Vector Byte 14) (s : BitVec 1) (P : Vector Byte 10) (i : Nat) (h : i ≤ 50) :
    (data F s P)[i]? = some (dataByte F s P i) := by
  have hlt : i < (data F s P).length := by simp; omega
  simp [dataByte, List.getD_eq_getElem?_getD, List.getElem?_eq_getElem hlt]

end Sys2Proof.Machine
end

