-- ==== Sys2Proof/Laws/State.lean ====
section
/-! SUPPORT. One lemma per field per update of the state (spec/10_state.md R22), each true by unfolding. -/

namespace Sys2Proof.Machine

@[simp] theorem quiet_acc (s : State) : s.quiet.acc = s.acc := rfl
@[simp] theorem quiet_fld (s : State) : s.quiet.fld = s.fld := rfl
@[simp] theorem quiet_sel (s : State) : s.quiet.sel = s.sel := rfl
@[simp] theorem quiet_rk (s : State) : s.quiet.rk = s.rk := rfl
@[simp] theorem quiet_idx (s : State) : s.quiet.idx = s.idx := rfl
@[simp] theorem quiet_facc (s : State) : s.quiet.facc = s.facc := rfl
@[simp] theorem quiet_cfg (s : State) : s.quiet.cfg = s.cfg := rfl
@[simp] theorem quiet_portF (s : State) : s.quiet.portF = s.portF := rfl
@[simp] theorem quiet_agenda (s : State) : s.quiet.agenda = s.agenda := rfl
@[simp] theorem quiet_out (s : State) : s.quiet.out = Outputs.silent := rfl

@[simp] theorem writeAcc_acc (s : State) (v : Byte) : (s.writeAcc v).acc = v := rfl
@[simp] theorem writeAcc_fld (s : State) (v : Byte) : (s.writeAcc v).fld = s.fld := rfl
@[simp] theorem writeAcc_sel (s : State) (v : Byte) : (s.writeAcc v).sel = s.sel := rfl
@[simp] theorem writeAcc_rk (s : State) (v : Byte) : (s.writeAcc v).rk = s.rk := rfl
@[simp] theorem writeAcc_idx (s : State) (v : Byte) : (s.writeAcc v).idx = s.idx := rfl
@[simp] theorem writeAcc_facc (s : State) (v : Byte) : (s.writeAcc v).facc = s.facc := rfl
@[simp] theorem writeAcc_cfg (s : State) (v : Byte) : (s.writeAcc v).cfg = s.cfg := rfl
@[simp] theorem writeAcc_portF (s : State) (v : Byte) : (s.writeAcc v).portF = s.portF := rfl
@[simp] theorem writeAcc_agenda (s : State) (v : Byte) : (s.writeAcc v).agenda = s.agenda := rfl
@[simp] theorem writeAcc_out (s : State) (v : Byte) : (s.writeAcc v).out = s.out := rfl

@[simp] theorem presentSum_acc (s : State) (m : Option Bool) : (s.presentSum m).acc = s.acc := rfl
@[simp] theorem presentSum_fld (s : State) (m : Option Bool) : (s.presentSum m).fld = s.fld := rfl
@[simp] theorem presentSum_sel (s : State) (m : Option Bool) : (s.presentSum m).sel = s.sel := rfl
@[simp] theorem presentSum_rk (s : State) (m : Option Bool) : (s.presentSum m).rk = s.rk := rfl
@[simp] theorem presentSum_idx (s : State) (m : Option Bool) : (s.presentSum m).idx = s.idx := rfl
@[simp] theorem presentSum_facc (s : State) (m : Option Bool) : (s.presentSum m).facc = s.facc := rfl
@[simp] theorem presentSum_cfg (s : State) (m : Option Bool) : (s.presentSum m).cfg = s.cfg := rfl
@[simp] theorem presentSum_portF (s : State) (m : Option Bool) : (s.presentSum m).portF = s.portF := rfl
@[simp] theorem presentSum_agenda (s : State) (m : Option Bool) : (s.presentSum m).agenda = s.agenda := rfl
@[simp] theorem presentSum_out (s : State) (m : Option Bool) : (s.presentSum m).out = ⟨some s.acc, m, none, none⟩ := rfl

@[simp] theorem presentByte_acc (s : State) (b : Byte) (l : Bool) : (s.presentByte b l).acc = s.acc := rfl
@[simp] theorem presentByte_fld (s : State) (b : Byte) (l : Bool) : (s.presentByte b l).fld = s.fld := rfl
@[simp] theorem presentByte_sel (s : State) (b : Byte) (l : Bool) : (s.presentByte b l).sel = s.sel := rfl
@[simp] theorem presentByte_rk (s : State) (b : Byte) (l : Bool) : (s.presentByte b l).rk = s.rk := rfl
@[simp] theorem presentByte_idx (s : State) (b : Byte) (l : Bool) : (s.presentByte b l).idx = s.idx := rfl
@[simp] theorem presentByte_facc (s : State) (b : Byte) (l : Bool) : (s.presentByte b l).facc = s.facc := rfl
@[simp] theorem presentByte_cfg (s : State) (b : Byte) (l : Bool) : (s.presentByte b l).cfg = s.cfg := rfl
@[simp] theorem presentByte_portF (s : State) (b : Byte) (l : Bool) : (s.presentByte b l).portF = s.portF := rfl
@[simp] theorem presentByte_agenda (s : State) (b : Byte) (l : Bool) : (s.presentByte b l).agenda = s.agenda := rfl
@[simp] theorem presentByte_out (s : State) (b : Byte) (l : Bool) : (s.presentByte b l).out = ⟨none, none, some b, some l⟩ := rfl

@[simp] theorem beginReply_acc (s : State) (k : ReplyKind) : (s.beginReply k).acc = s.acc := rfl
@[simp] theorem beginReply_fld (s : State) (k : ReplyKind) : (s.beginReply k).fld = s.fld := rfl
@[simp] theorem beginReply_sel (s : State) (k : ReplyKind) : (s.beginReply k).sel = s.sel := rfl
@[simp] theorem beginReply_rk (s : State) (k : ReplyKind) : (s.beginReply k).rk = k := rfl
@[simp] theorem beginReply_idx (s : State) (k : ReplyKind) : (s.beginReply k).idx = 0#6 := rfl
@[simp] theorem beginReply_facc (s : State) (k : ReplyKind) : (s.beginReply k).facc = s.facc := rfl
@[simp] theorem beginReply_cfg (s : State) (k : ReplyKind) : (s.beginReply k).cfg = s.cfg := rfl
@[simp] theorem beginReply_portF (s : State) (k : ReplyKind) : (s.beginReply k).portF = s.portF := rfl
@[simp] theorem beginReply_agenda (s : State) (k : ReplyKind) : (s.beginReply k).agenda = s.agenda := rfl
@[simp] theorem beginReply_out (s : State) (k : ReplyKind) : (s.beginReply k).out = s.out := rfl

@[simp] theorem sampleFields_acc (s : State) : s.sampleFields.acc = s.acc := rfl
@[simp] theorem sampleFields_sel (s : State) : s.sampleFields.sel = s.portF.fSel := rfl
@[simp] theorem sampleFields_rk (s : State) : s.sampleFields.rk = s.rk := rfl
@[simp] theorem sampleFields_idx (s : State) : s.sampleFields.idx = s.idx := rfl
@[simp] theorem sampleFields_facc (s : State) : s.sampleFields.facc = 0x00#8 := rfl
@[simp] theorem sampleFields_cfg (s : State) : s.sampleFields.cfg = s.cfg := rfl
@[simp] theorem sampleFields_portF (s : State) : s.sampleFields.portF = s.portF := rfl
@[simp] theorem sampleFields_agenda (s : State) : s.sampleFields.agenda = s.agenda := rfl
@[simp] theorem sampleFields_out (s : State) : s.sampleFields.out = s.out := rfl

@[simp] theorem hold_acc (s : State) (p : PortWord) : (s.hold p).acc = s.acc := rfl
@[simp] theorem hold_fld (s : State) (p : PortWord) : (s.hold p).fld = s.fld := rfl
@[simp] theorem hold_sel (s : State) (p : PortWord) : (s.hold p).sel = s.sel := rfl
@[simp] theorem hold_rk (s : State) (p : PortWord) : (s.hold p).rk = s.rk := rfl
@[simp] theorem hold_idx (s : State) (p : PortWord) : (s.hold p).idx = s.idx := rfl
@[simp] theorem hold_facc (s : State) (p : PortWord) : (s.hold p).facc = s.facc := rfl
@[simp] theorem hold_cfg (s : State) (p : PortWord) : (s.hold p).cfg = s.cfg := rfl
@[simp] theorem hold_portF (s : State) (p : PortWord) : (s.hold p).portF = s.portF := rfl
@[simp] theorem hold_agenda (s : State) (p : PortWord) : (s.hold p).agenda = .op p :: s.agenda := rfl
@[simp] theorem hold_out (s : State) (p : PortWord) : (s.hold p).out = Outputs.silent := rfl

@[simp] theorem assertReset_acc (s : State) : s.assertReset.acc = 0x00#8 := rfl
@[simp] theorem assertReset_fld (s : State) : s.assertReset.fld = State.reset.fld := rfl
@[simp] theorem assertReset_sel (s : State) : s.assertReset.sel = State.reset.sel := rfl
@[simp] theorem assertReset_rk (s : State) : s.assertReset.rk = .none := rfl
@[simp] theorem assertReset_idx (s : State) : s.assertReset.idx = 0#6 := rfl
@[simp] theorem assertReset_facc (s : State) : s.assertReset.facc = 0x00#8 := rfl
@[simp] theorem assertReset_cfg (s : State) : s.assertReset.cfg = s.cfg := rfl
@[simp] theorem assertReset_portF (s : State) : s.assertReset.portF = s.portF := rfl
@[simp] theorem assertReset_agenda (s : State) : s.assertReset.agenda = s.agenda := rfl
@[simp] theorem assertReset_out (s : State) : s.assertReset.out = Outputs.silent := rfl

/-- All 14 inputs are sampled at once (41_frame_structurer.md R131). -/
@[simp] theorem sampleFields_fld (s : State) : s.sampleFields.fld = s.portF.fIn := by
  ext k hk
  simp [State.sampleFields, State.fieldInput, Vector.get]

/-- After the last byte the block is idle with `IDX = 0` (42_command_decode.md R176). -/
@[simp] theorem advance_last (s : State) : s.advance true = { s with rk := .none, idx := 0#6 } := rfl

/-- Before the last byte only `IDX` moves (42_command_decode.md R176). -/
@[simp] theorem advance_notLast (s : State) : s.advance false = { s with idx := s.idx + 1#6 } := rfl

end Sys2Proof.Machine
end

