-- ==== Sys2Proof/Laws/Ops.lean ====
section
/-! SUPPORT. Everything each shared operation can do, once (spec/42_command_decode.md R170, R176;
spec/41_frame_structurer.md R139). -/

namespace Sys2Proof.Machine

@[simp] theorem lReady_iff (s : State) : s.lReady = true ↔ s.rk = .none := by simp [State.lReady]

@[simp] theorem tBusy_iff (s : State) : s.tBusy = true ↔ s.rk ≠ .none := by simp [State.tBusy]

/-- A port-L event is performed when idle and held when busy; nothing else can happen to it. -/
theorem whenIdle_cases (s : State) (w : LinkWord) (k : State → State) :
    (s.rk = .none ∧ s.whenIdle w k = k s) ∨ (s.rk ≠ .none ∧ s.whenIdle w k = s.hold (.l w)) := by
  by_cases h : s.rk = .none <;> simp [State.whenIdle, h]

/-- A byte take is performed when busy and waits when idle; nothing else can happen to it. -/
theorem whenBusy_cases (s : State) (k : State → State) :
    (s.rk ≠ .none ∧ s.whenBusy k = k s) ∨ (s.rk = .none ∧ s.whenBusy k = s.hold .t) := by
  by_cases h : s.rk = .none <;> simp [State.whenBusy, h]

/-- A reply byte leaves and it is the last one, or it is not: the two things an enabled `TX.EMIT` can do. -/
theorem emit_cases (s : State) :
    (s.lastByte = true ∧ s.emit = { s with
        rk := .none, idx := 0#6, facc := nextFacc s, out := ⟨none, none, some (replyByte s), some true⟩ }) ∨
    (s.lastByte = false ∧ s.emit = { s with
        idx := s.idx + 1#6, facc := nextFacc s, out := ⟨none, none, some (replyByte s), some false⟩ }) := by
  by_cases h : s.lastByte
  · exact .inl ⟨h, by simp [State.emit, h, State.presentByte, Outputs.silent]⟩
  · have h' : s.lastByte = false := by simpa using h
    exact .inr ⟨h', by simp [State.emit, h', State.presentByte, Outputs.silent]⟩

end Sys2Proof.Machine
end

