-- ==== Sys2Proof/Laws/PerInstr.lean ====
section
/-! SUPPORT. One fact about the encoding of every operation: the word the encoder writes is selected by the operation's own
row of the opcode map (spec/30_encoding.md R79). -/

namespace Sys2Proof.Laws.RowSelects

/-- Some row of the opcode map has the operation's mnemonic and format and selects its encoding. -/
def Statement (i : Instr) : Prop :=
  ∃ r ∈ opcodeTable, r.mnemonic = i.mnemonic ∧ r.format = i.format ∧ r.selects (encode i) = true

/-- Masking the bits [9:8] of a service word leaves its code. -/
theorem serviceWord_mask (op : BitVec 2) (d : Byte) : (serviceWord op d).toNat &&& 0x300 = op.toNat * 256 := by
  revert op d
  decide

theorem csClr : Statement .csClr := ⟨⟨"CS.CLR", .c, 0x000, 0x300⟩, by simp [opcodeTable], rfl, rfl, by decide⟩

theorem csAdd (d : Byte) : Statement (.csAdd d) :=
  ⟨⟨"CS.ADD", .c, 0x100, 0x300⟩, by simp [opcodeTable], rfl, rfl, by
    simp [OpcodeRow.selects, encode, PortWord.format, PortWord.bits, serviceWord_mask]⟩

theorem csRd : Statement .csRd := ⟨⟨"CS.RD", .c, 0x200, 0x300⟩, by simp [opcodeTable], rfl, rfl, by decide⟩

theorem csVfy (e : Byte) : Statement (.csVfy e) :=
  ⟨⟨"CS.VFY", .c, 0x300, 0x300⟩, by simp [opcodeTable], rfl, rfl, by
    simp [OpcodeRow.selects, encode, PortWord.format, PortWord.bits, serviceWord_mask]⟩

theorem probeReady : Statement .probeReady :=
  ⟨⟨"PROBE_READY", .l, 0x1000, 0xFFFF⟩, by simp [opcodeTable], rfl, rfl, by decide⟩

theorem requestTelemetry : Statement .requestTelemetry :=
  ⟨⟨"REQUEST_TELEMETRY", .l, 0x2000, 0xFFFF⟩, by simp [opcodeTable], rfl, rfl, by decide⟩

theorem probeAlt : Statement .probeAlt :=
  ⟨⟨"PROBE_ALT", .l, 0x5000, 0xFFFF⟩, by simp [opcodeTable], rfl, rfl, by decide⟩

theorem lUnrec (w : LinkWord) : Statement (.lUnrec w) :=
  ⟨⟨"L.UNREC", .l, 0x0000, 0x0000⟩, by simp [opcodeTable], rfl, rfl, by
    simp [OpcodeRow.selects, encode, PortWord.format]⟩

theorem txEmit : Statement .txEmit := ⟨⟨"TX.EMIT", .t, 0x0, 0x0⟩, by simp [opcodeTable], rfl, rfl, by decide⟩

end Sys2Proof.Laws.RowSelects
end

