-- ==== Sys2Proof/Laws/Profiles.lean ====
section
/-! SUPPORT. What a Block is as a sequence of bytes, and what accepting a read asks (spec/30_encoding.md R76;
spec/40_checksum.md R113). -/

namespace Sys2Proof.Machine

@[simp] theorem block_toList (payload : Vector Byte blockPayloadLength) (e : Byte) :
    (block payload e).toList = payload.toList ++ [e] := Vector.toList_push

@[simp] theorem blockPayload_block (payload : Vector Byte blockPayloadLength) (e : Byte) :
    blockPayload (block payload e) = payload := by
  simp [blockPayload, block]

@[simp] theorem blockChecksum_block (payload : Vector Byte blockPayloadLength) (e : Byte) :
    blockChecksum (block payload e) = e := Vector.getElem_push_eq

/-- Every sequence of 4097 bytes is the Block of its payload and its checksum byte. -/
@[simp] theorem block_payload_checksum (b : Vector Byte blockLength) : block (blockPayload b) (blockChecksum b) = b :=
  b.push_pop_back

@[simp] theorem blockAccepted_append (bs : List Byte) (e : Byte) : blockAccepted (bs ++ [e]) = verify bs e := by
  simp [blockAccepted]

end Sys2Proof.Machine
end

