-- ==== Sys2Proof/Laws/Schedule.lean ====
section
/-! SUPPORT. Which event comes next (spec/42_command_decode.md R170, R176, R179). -/

namespace Sys2Proof.Machine

@[simp] theorem nextEvent_nil (s : State) : s.nextEvent [] = none := rfl

theorem nextEvent_cons_enabled (s : State) (e : Event) (es : List Event) (h : s.enables e = true) :
    s.nextEvent (e :: es) = some (e, es) := by
  simp [State.nextEvent, h]

theorem nextEvent_cons_disabled (s : State) (e : Event) (es : List Event) (h : s.enables e = false) :
    s.nextEvent (e :: es) = (s.nextEvent es).map fun x => (x.1, e :: x.2) := by
  simp only [State.nextEvent, h]
  cases s.nextEvent es <;> simp

/-- The chosen event is enabled, everything before it is not, and nothing else leaves the agenda. -/
theorem nextEvent_some {s : State} {es : List Event} {e : Event} {rest : List Event}
    (h : s.nextEvent es = some (e, rest)) :
    ∃ pre post, es = pre ++ e :: post ∧ rest = pre ++ post ∧ s.enables e = true ∧
      ∀ x ∈ pre, s.enables x = false := by
  induction es generalizing rest with
  | nil => simp at h
  | cons x xs ih =>
    by_cases hx : s.enables x = true
    · rw [nextEvent_cons_enabled _ _ _ hx] at h
      obtain ⟨rfl, rfl⟩ : x = e ∧ xs = rest := by simpa using h
      exact ⟨[], xs, rfl, rfl, hx, by simp⟩
    · have hx' : s.enables x = false := by simpa using hx
      rw [nextEvent_cons_disabled _ _ _ hx'] at h
      obtain ⟨⟨e', r⟩, hr, heq⟩ := Option.map_eq_some_iff.mp h
      obtain ⟨rfl, rfl⟩ : e' = e ∧ x :: r = rest := by simpa using heq
      obtain ⟨pre, post, rfl, rfl, he, hpre⟩ := ih hr
      exact ⟨x :: pre, post, rfl, rfl, he, by simpa [hx'] using hpre⟩

/-- Nothing is chosen only when nothing is enabled. -/
theorem nextEvent_none {s : State} {es : List Event} (h : s.nextEvent es = none) : ∀ x ∈ es, s.enables x = false := by
  induction es with
  | nil => simp
  | cons x xs ih =>
    by_cases hx : s.enables x = true
    · rw [nextEvent_cons_enabled _ _ _ hx] at h
      cases h
    · have hx' : s.enables x = false := by simpa using hx
      rw [nextEvent_cons_disabled _ _ _ hx'] at h
      simpa [hx'] using ih (Option.map_eq_none_iff.mp h)

/-- What a port-C operation reads and writes besides the outputs: `ACC` alone (20_memory.md R59). -/
theorem enables_congr (s t : State) (h : s.rk = t.rk) (e : Event) : s.enables e = t.enables e := by
  cases e with
  | op p => cases p <;> simp [State.enables, State.lReady, State.tBusy, h]
  | drive v => rfl
  | rst => rfl

end Sys2Proof.Machine
end

