-- ==== Sys2Proof/Tests/Slice0.lean ====
section
/-! SUPPORT. Tests. Expected values are the spec's own: the vectors V1 .. V52 and programs P1 .. P6 of
spec/95_test_vectors.md, and words written out from spec/30_encoding.md. After them, one witness for the hypotheses of every
statement that has hypotheses. -/

namespace Sys2Proof.Tests

open Sys2Proof Sys2Proof.Machine

/-- The state an outcome goes on with. -/
def after : Host.Outcome State Fault Refusal → Option State
  | .next s => some s
  | .fault _ => none
  | .refused _ => none

/-- The reset state with an accumulator. -/
def withAcc (a : Byte) : State := { State.reset with acc := a }

/-- A reply in progress. -/
def replying (k : ReplyKind) (i : BitVec 6) (f : Byte) : State := { State.reset with rk := k, idx := i, facc := f }

/-- The port-F sample of V24: `f_in = 5A 28 93 19 00 20 01 01 00 00 3C 01 00 00`. -/
def inputs24 : Vector Byte 14 :=
  #v[0x5A#8, 0x28#8, 0x93#8, 0x19#8, 0x00#8, 0x20#8, 0x01#8, 0x01#8, 0x00#8, 0x00#8, 0x3C#8, 0x01#8, 0x00#8, 0x00#8]

/-! ## Well-formedness: the one check refuses its ill-formed terms -/

theorem test_wf_refuses_probeReady_as_unrecognised : (Instr.lUnrec 0x1000#16).wf = false := by decide
theorem test_wf_refuses_requestTelemetry_as_unrecognised : (Instr.lUnrec 0x2000#16).wf = false := by decide
theorem test_wf_refuses_probeAlt_as_unrecognised : (Instr.lUnrec 0x5000#16).wf = false := by decide
theorem test_wf_takes_other_words : (Instr.lUnrec 0x5001#16).wf = true := by decide

/-! ## Decoding, every constructor, from words written out bit by bit (R71, R72, R79; R82) -/

theorem test_decode_csClr : decode (.c 0b00_00000000#10) = .csClr := by decide
theorem test_decode_csClr_ignores_data : decode (.c 0b00_11111111#10) = .csClr := by decide
theorem test_decode_csAdd : decode (.c 0b01_01011010#10) = .csAdd 0x5A#8 := by decide
theorem test_decode_csRd_ignores_data : decode (.c 0b10_10101010#10) = .csRd := by decide
theorem test_decode_csVfy : decode (.c 0b11_00111100#10) = .csVfy 0x3C#8 := by decide
theorem test_decode_probeReady : decode (.l 0b0001000000000000#16) = .probeReady := by decide
theorem test_decode_requestTelemetry : decode (.l 0b0010000000000000#16) = .requestTelemetry := by decide
theorem test_decode_probeAlt : decode (.l 0b0101000000000000#16) = .probeAlt := by decide
theorem test_decode_second_byte_matters : decode (.l 0b0001000000000001#16) = .lUnrec 0x1001#16 := by decide
theorem test_decode_byte_order_matters : decode (.l (linkWord 0x00#8 0x10#8)) = .lUnrec 0x0010#16 := by decide
theorem test_decode_txEmit : decode .t = .txEmit := by decide
theorem test_decodeTableWord_csVfy : decodeTableWord 16 0x339 = some (.csVfy 0x39#8) := by decide
theorem test_decodeTableWord_probeAlt : decodeTableWord 16 0x5000 = some .probeAlt := by decide

/-! ## Port C (V30 to V39) -/

/-- V30. -/
theorem test_csClr : exec .csClr (withAcc 0x9C#8) =
    .next { withAcc 0x00#8 with out := ⟨some 0x00#8, none, none, none⟩ } := rfl

/-- V32. -/
theorem test_csAdd : (after (exec (.csAdd 0x80#8) (withAcc 0xBC#8))).map State.acc = some 0x3C#8 := by decide

/-- V34: the sum wraps. -/
theorem test_csAdd_wraps : (after (exec (.csAdd 0xFF#8) (withAcc 0xFF#8))).map State.acc = some 0xFE#8 := by decide

/-- V36. -/
theorem test_csRd : exec .csRd (withAcc 0x3C#8) =
    .next { withAcc 0x3C#8 with out := ⟨some 0x3C#8, none, none, none⟩ } := rfl

/-- V38. -/
theorem test_csVfy_match : (after (exec (.csVfy 0x38#8) (withAcc 0x38#8))).map State.out =
    some ⟨some 0x38#8, some true, none, none⟩ := by decide

/-- V39. -/
theorem test_csVfy_mismatch : (after (exec (.csVfy 0x39#8) (withAcc 0x38#8))).map State.out =
    some ⟨some 0x38#8, some false, none, none⟩ := by decide

/-! ## Ports L and T (V40 to V52) -/

/-- V40, the command. -/
theorem test_probeReady : (after (exec .probeReady State.reset)).map (fun t => (t.rk, t.idx)) =
    some (.ready, 0#6) := by decide

/-- V48: not enabled while busy; the command is held. -/
theorem test_probeReady_held : (after (exec .probeReady (replying .telem 7#6 0#8))).map
    (fun t => (t.rk, t.idx, t.agenda)) = some (.telem, 7#6, [.op (.l 0x1000#16)]) := by decide

/-- V41 and P3: the sample. -/
theorem test_requestTelemetry : (after (exec .requestTelemetry { State.reset with portF := ⟨inputs24, 1#1⟩, facc := 9#8 })).map
    (fun t => (t.rk, t.idx, t.fld, t.sel, t.facc)) = some (.telem, 0#6, inputs24, 1#1, 0x00#8) := by decide

/-- V42, the command. -/
theorem test_probeAlt : (after (exec .probeAlt State.reset)).map (fun t => (t.rk, t.idx)) = some (.alt, 0#6) := by decide

/-- V43. -/
theorem test_lUnrec : exec (.lUnrec 0xFFFF#16) State.reset = .next State.reset := rfl

/-- V50. -/
theorem test_txEmit_data : (after (exec .txEmit (replying .telem 50#6 0xB8#8))).map
    (fun t => (t.out, t.rk, t.idx, t.facc)) =
    some (⟨none, none, some 0x02#8, some false⟩, .telem, 51#6, 0xBA#8) := by decide

/-- V51. -/
theorem test_txEmit_checksum : (after (exec .txEmit (replying .telem 51#6 0xBA#8))).map
    (fun t => (t.out, t.rk, t.idx, t.facc)) =
    some (⟨none, none, some 0xBA#8, some true⟩, .none, 0#6, 0xBA#8) := by decide

/-- V52. -/
theorem test_rst : (after (perform .rst { replying .telem 20#6 0x77#8 with acc := 0x11#8 })).map
    (fun t => (t.acc, t.rk, t.idx, t.facc)) = some (0x00#8, .none, 0#6, 0x00#8) := by decide

/-! ## The step -/

/-- P5, rows 8 and 9: with a command held, the next byte take is performed and the command keeps its place. -/
theorem test_step_passes_the_held_command : (after (step { replying .telem 4#6 0x07#8 with
      agenda := [.op (.l 0x1000#16), .op .t] })).map (fun t => (t.idx, t.agenda)) =
    some (5#6, [.op (.l 0x1000#16)]) := by decide

/-- A table word placed after reset runs in the very next step. -/
theorem test_placed_word_runs : (after (step (State.reset.withFetchWord 16 0x15A))).map State.acc = some 0x5A#8 := by decide

/-- A change of port F is not an operation of the block. -/
theorem test_drive : (after (perform (.drive ⟨inputs24, 1#1⟩) State.reset)).map (fun t => (t.portF.fSel, t.fld, t.sel)) =
    some (1#1, State.reset.fld, State.reset.sel) := by decide

/-! ## Pure functions -/

/-- V6. -/
theorem test_checksum : checksum [0xDE#8, 0xAD#8, 0xBE#8, 0xEF#8] = 0x38#8 := by decide

/-- V24: the frame, with the default pads. -/
theorem test_frame_sel0 : frame inputs24 0#1 Config.default.pad =
    [0x5A#8, 0x28#8, 0x93#8, 0x06#8, 0x19#8, 0x02#8, 0x08#8, 0x00#8, 0x20#8, 0x00#8, 0x01#8, 0x01#8, 0x00#8, 0x00#8,
      0x3C#8, 0x01#8, 0x00#8, 0x6D#8, 0x01#8, 0x00#8, 0x00#8] ++ List.replicate 30 0x02#8 ++ [0x47#8] := by decide

/-- V26: `SEL = 1` and pads of `00`. -/
theorem test_frame_sel1 : frame inputs24 1#1 (Vector.replicate 10 0x00#8) =
    [0x5A#8, 0x28#8, 0x93#8, 0x07#8, 0x19#8, 0x03#8, 0x09#8, 0x00#8, 0x20#8, 0x01#8, 0x01#8, 0x01#8, 0x00#8, 0x00#8,
      0x3C#8, 0x00#8, 0x08#8, 0x74#8, 0x01#8, 0x00#8, 0x00#8] ++ List.replicate 20 0x02#8 ++ List.replicate 10 0x00#8 ++
      [0x45#8] := by decide

/-- V27: pads `A0` .. `A9`; the checksum follows `PAD`. -/
theorem test_frame_pads : (frame inputs24 0#1
    #v[0xA0#8, 0xA1#8, 0xA2#8, 0xA3#8, 0xA4#8, 0xA5#8, 0xA6#8, 0xA7#8, 0xA8#8, 0xA9#8]).drop 49 =
    [0xA8#8, 0xA9#8, 0xA0#8] := by decide

/-- S6 as 90_conflicts.md C1 corrects it: `3C`, not `6C`. -/
theorem test_blockRequest : blockRequest 0x80#8 = [0x5A#8, 0x52#8, 0x10#8, 0x00#8, 0x80#8, 0x3C#8] := by decide

/-- R113, N12: the test does not look at the length; a 1-byte read `00` passes, `01` does not. -/
theorem test_block_shortRead : blockAccepted [0x00#8] = true ∧ blockAccepted [0x01#8] = false := by decide

/-- V24's frame with its last byte changed by one is not accepted. -/
theorem test_frame_corrupted : frameAccepted (data inputs24 0#1 Config.default.pad ++ [0x48#8]) = false := by decide

/-- 30_encoding.md R82. -/
theorem test_text : instrText (.csAdd 0x5A#8) = "CS.ADD  0x5A" := by decide

/-- R83. -/
theorem test_csSum_words : (csSum [0x5A#8]).map encode = [.c 0x000#10, .c 0x15A#10, .c 0x200#10] := by decide

/-! ## Witnesses: a concrete case that meets all hypotheses of a statement together -/

theorem witness_DecodeOfEncodeIsIdentity : (Instr.lUnrec 0xFFFF#16).wf = true := by decide

theorem witness_EncodeOfDecodeLosesOnlyDontCareBits :
    cOp 0x0FF#10 = 0b00#2 ∧ cOp 0x2AA#10 = 0b10#2 ∧ cOp 0x15A#10 = 0b01#2 ∧ cOp 0x3FF#10 = 0b11#2 := by decide

theorem witness_UnrecognisedWordDoesNothing :
    (0xFFFF#16 ≠ 0x1000#16 ∧ 0xFFFF#16 ≠ 0x2000#16 ∧ 0xFFFF#16 ≠ 0x5000#16) ∧ State.reset.rk = .none := by decide

theorem witness_ResetIsEnabledAndOverrides : (Instant.mk true (some 0x15A#10) (some 0x2000#16) false).rst = true := by decide

theorem witness_StepPerformsTheFirstEnabledEvent :
    let s := { replying .ready 0#6 0#8 with agenda := [.op (.l 0x1000#16), .op .t, .rst] }
    s.agenda = [.op (.l 0x1000#16)] ++ .op .t :: [.rst] ∧ (∀ x ∈ [Event.op (.l 0x1000#16)], s.enables x = false) ∧
      s.enables (.op .t) = true := by decide

theorem witness_StepRunsTheDecodedOperation :
    let s := { State.reset with agenda := [eventOf .requestTelemetry, .op .t] }
    Instr.requestTelemetry.wf = true ∧ s.agenda = eventOf .requestTelemetry :: [.op .t] ∧
      s.enables (eventOf .requestTelemetry) = true := by decide

theorem witness_PlacedTableWordRunsNext_link :
    decodeTableWord 16 0x2000 = some .requestTelemetry ∧ State.reset.rk = .none := by decide

theorem witness_PlacedTableWordRunsNext_take :
    decodeTableWord 0 0 = some .txEmit ∧ (replying .ready 0#6 0#8).rk ≠ .none := by decide

theorem witness_NothingEnabledNothingHappens :
    let s := { State.reset with agenda := [.op .t] }
    ∀ e ∈ s.agenda, s.enables e = false := by decide

theorem witness_StepKeepsInvariant :
    let s := { replying .telem 51#6 0xBA#8 with agenda := [.op .t] }
    s.Inv ∧ (after (step s)).isSome = true := by decide

theorem witness_ProbeReadyResult : State.reset.rk = .none := by decide
theorem witness_ProbeAltResult : State.reset.rk = .none := by decide
theorem witness_RequestTelemetryResult : ({ State.reset with portF := ⟨inputs24, 1#1⟩ } : State).rk = .none := by decide

theorem witness_EventThatIsNotEnabledIsHeld :
    (Instr.requestTelemetry.wf = true ∧ Instr.requestTelemetry.format = .l ∧ (replying .alt 0#6 0#8).rk ≠ .none) ∧
      State.reset.rk = .none := by decide

theorem witness_EmitTelemetryByte_first : (replying .telem 0#6 0#8).rk = .telem ∧ (0#6).toNat ≤ 50 := by decide
theorem witness_EmitTelemetryByte_lastData : (replying .telem 50#6 0#8).rk = .telem ∧ (50#6).toNat ≤ 50 := by decide
theorem witness_EmitTelemetryByte_checksum :
    (replying .telem 51#6 0#8).rk = .telem ∧ (replying .telem 51#6 0#8).idx = 51#6 := by decide

theorem witness_EmitResult_ready :
    (replying .ready 0#6 0#8).rk ≠ .none ∧ (replying .ready 0#6 0#8).idx = 0#6 ∧
      (replying .ready 0#6 0#8).lastByte = true := by decide
theorem witness_EmitResult_alt :
    (replying .alt 0#6 0#8).rk ≠ .none ∧ (replying .alt 0#6 0#8).idx = 0#6 ∧
      (replying .alt 0#6 0#8).lastByte = true := by decide
theorem witness_EmitResult_telem :
    (replying .telem 50#6 0#8).rk ≠ .none ∧ (replying .telem 50#6 0#8).lastByte = false ∧
      (replying .telem 51#6 0#8).lastByte = true := by decide

theorem witness_AccumulatorsAreSeparate :
    Instr.requestTelemetry.format ≠ .c ∧ (after (exec .requestTelemetry (withAcc 0x5A#8))).isSome = true ∧
      (Instr.csAdd 1#8).format = .c ∧ (after (exec (.csAdd 1#8) (replying .telem 4#6 0x07#8))).isSome = true := by decide

theorem witness_OperationsOfDifferentUnitsCommute : (PortWord.l 0x2000#16).format ≠ .c ∧ PortWord.t.format ≠ .c := by decide

theorem witness_FieldsAreSampledByRequestOnly :
    let s := { State.reset with portF := ⟨inputs24, 1#1⟩ }
    s.rk = .none ∧ (after (exec .requestTelemetry s)).map (fun t => decide (t.fld ≠ s.fld ∨ t.sel ≠ s.sel)) = some true := by
  decide

theorem witness_NoStepWritesThePads : (after (step { State.reset with agenda := [.rst] })).isSome = true := by decide

theorem witness_ControlFlowOfReplies_leave :
    (after (exec .probeAlt State.reset)).map (fun t => decide (t.rk ≠ State.reset.rk)) = some true := by decide
theorem witness_ControlFlowOfReplies_return :
    (after (exec .txEmit (replying .telem 51#6 0#8))).map (fun t => decide (t.rk ≠ .telem)) = some true := by decide

theorem witness_OutputsOnlyInTheirOwnStep :
    (after (perform (.drive ⟨inputs24, 1#1⟩) State.reset)).isSome = true ∧
      (after (exec (.csVfy 0#8) State.reset)).map (fun t => t.out.cMatch) = some (some true) ∧
      (after (exec .txEmit (replying .alt 0#6 0#8))).map (fun t => t.out.tByte) = some (some 0x50#8) := by decide

theorem witness_HiddenStateIsDeadBetweenFrames : (replying .ready 0#6 0#8).rk ≠ .telem ∧ State.reset.rk ≠ .telem := by decide

theorem witness_ChecksumIsSelfConsistent : 0x39#8 ≠ checksum [0xDE#8, 0xAD#8, 0xBE#8, 0xEF#8] := by decide

theorem witness_ChecksumIsAHomomorphism : [0xDE#8, 0xAD#8].Perm [0xAD#8, 0xDE#8] := List.Perm.swap _ _ _

theorem witness_ChecksumMissesCompensatedChanges : (List.replicate 256 0x01#8).length = 256 :=
  List.length_replicate ..

theorem witness_StreamedBytesAddUpInAcc_sum :
    let s := { State.reset with agenda := [.op (.c 0x15A#10), .op (.l 0x2000#16), .op .t, .op (.c 0x152#10)] }
    (∀ e ∈ s.agenda, e ≠ .rst) ∧ s.agenda.filterMap serviceInstr = [0x5A#8, 0x52#8].map .csAdd := by decide

theorem witness_StreamedBytesAddUpInAcc_clear :
    let s := { State.reset with agenda := [.op .t, .op (.c 0x000#10), .op (.c 0x15A#10), .drive ⟨inputs24, 0#1⟩] }
    (∀ e ∈ s.agenda, e ≠ .rst) ∧ s.agenda.filterMap serviceInstr = .csClr :: [0x5A#8].map .csAdd := by decide

theorem witness_SumAndCheckComputeTheFunctions :
    ({ State.reset with agenda := (csSum [0x5A#8]).map eventOf } : State).agenda = (csSum [0x5A#8]).map eventOf ∧
      ({ State.reset with agenda := (csCheck [] 0x01#8).map eventOf } : State).agenda =
        (csCheck [] 0x01#8).map eventOf := by decide

theorem witness_ReceivedMessagesAreCheckedByTheirLastByte :
    (data inputs24 0#1 Config.default.pad ++ [0x48#8]).length = 52 ∧ [0x00#8].length ≠ 52 := by decide

theorem witness_EveryFrameIsConsistent : 21 ≤ 40 ∧ 40 ≤ 40 ∧ frame inputs24 0#1 Config.default.pad =
    frame inputs24 0#1 Config.default.pad := by decide

/-- P3 and P5: a telemetry request, port-C operations and a change of port F between the 52 byte takes. -/
theorem witness_ReplyToEveryCommandWord_telemetry :
    let es : List Event := [.op .t, .op (.c 0x15A#10), .drive ⟨inputs24, 1#1⟩] ++ List.replicate 51 (.op .t)
    let s := { State.reset with agenda := .op (.l 0x2000#16) :: es }
    s.rk = .none ∧ s.idx = 0#6 ∧ s.agenda = .op (.l 0x2000#16) :: es ∧ (∀ e ∈ es, besideReply e = true) ∧
      es.count (.op .t) = (reply 0x2000#16 s.portF.fIn s.portF.fSel s.cfg.pad).length := by decide

theorem witness_ReplyToEveryCommandWord_probeReady :
    let es : List Event := [.op (.c 0x200#10), .op .t]
    let s := { State.reset with agenda := .op (.l 0x1000#16) :: es }
    s.rk = .none ∧ s.idx = 0#6 ∧ s.agenda = .op (.l 0x1000#16) :: es ∧ (∀ e ∈ es, besideReply e = true) ∧
      es.count (.op .t) = (reply 0x1000#16 s.portF.fIn s.portF.fSel s.cfg.pad).length := by decide

theorem witness_ReplyToEveryCommandWord_probeAlt :
    let es : List Event := [.op (.c 0x200#10), .op .t]
    let s := { State.reset with agenda := .op (.l 0x5000#16) :: es }
    s.rk = .none ∧ s.idx = 0#6 ∧ s.agenda = .op (.l 0x5000#16) :: es ∧ (∀ e ∈ es, besideReply e = true) ∧
      es.count (.op .t) = (reply 0x5000#16 s.portF.fIn s.portF.fSel s.cfg.pad).length := by decide

theorem witness_ReplyToEveryCommandWord_unrecognised :
    let s := { State.reset with agenda := [.op (.l 0xFFFF#16), .op (.c 0x200#10)] }
    s.rk = .none ∧ s.idx = 0#6 ∧ besideReply (.op (.c 0x200#10)) = true ∧
      [Event.op (.c 0x200#10)].count (.op .t) = (reply 0xFFFF#16 s.portF.fIn s.portF.fSel s.cfg.pad).length := by decide

theorem witness_BusyHoldIsLiftedByTheSink :
    let s := { replying .telem 50#6 0xB8#8 with agenda := .op (.l 0x1000#16) :: List.replicate 2 (.op .t) }
    s.Inv ∧ s.rk ≠ .none ∧ 2 = replyLength s.rk - s.idx.toNat ∧
      s.agenda = .op (.l 0x1000#16) :: List.replicate 2 (.op .t) := by decide

theorem witness_BusyHoldIsLiftedByTheSink_oneByte :
    let s := { replying .alt 0#6 0#8 with agenda := [.op (.l 0xFFFF#16), .op .t] }
    s.Inv ∧ s.rk ≠ .none ∧ 1 = replyLength s.rk - s.idx.toNat := by decide

end Sys2Proof.Tests
end

section
/-! ## What the operations and the step can do

One function from states to states for every operation, by the port it stands on; one case split for the step. The
proofs of this family go through these and do not unfold `exec` or `step` again. -/

namespace Sys2Proof.Machine

/-! ### Enabling -/

/-- The two status outputs are complementary (10_state.md R27). -/
theorem lReady_eq_not_tBusy (s : State) : s.lReady = !s.tBusy := by
  simp [State.lReady, State.tBusy, bne]

theorem whenIdle_of_idle {s : State} (h : s.rk = .none) (w : LinkWord) (k : State → State) : s.whenIdle w k = k s := by
  simp [State.whenIdle, h]

theorem whenIdle_of_busy {s : State} (h : s.rk ≠ .none) (w : LinkWord) (k : State → State) :
    s.whenIdle w k = s.hold (.l w) := by
  simp [State.whenIdle, h]

/-- A predicate holds after a port-L event when it holds after its action on an idle block and after the wait. -/
theorem whenIdle_ind {P : State → Prop} {s : State} {w : LinkWord} {k : State → State}
    (hk : s.rk = .none → P (k s)) (hhold : P (s.hold (.l w))) : P (s.whenIdle w k) := by
  obtain ⟨hidle, heq⟩ | ⟨-, heq⟩ := whenIdle_cases s w k
  · exact heq ▸ hk hidle
  · exact heq ▸ hhold

/-- A predicate holds after a byte take when it holds after its action on a busy block and after the wait. -/
theorem whenBusy_ind {P : State → Prop} {s : State} {k : State → State}
    (hk : s.rk ≠ .none → P (k s)) (hhold : P (s.hold .t)) : P (s.whenBusy k) := by
  obtain ⟨hbusy, heq⟩ | ⟨-, heq⟩ := whenBusy_cases s k
  · exact heq ▸ hk hbusy
  · exact heq ▸ hhold

/-- A change `g` of the state that leaves `RK` alone passes through a port-L event if it passes through its two outcomes. -/
theorem whenIdle_comm {g : State → State} {s : State} {w : LinkWord} {k : State → State} (hrk : (g s).rk = s.rk)
    (hk : k (g s) = g (k s)) (hhold : (g s).hold (.l w) = g (s.hold (.l w))) :
    (g s).whenIdle w k = g (s.whenIdle w k) := by
  by_cases hidle : s.rk = .none
  · rw [whenIdle_of_idle hidle, whenIdle_of_idle (hrk.trans hidle), hk]
  · rw [whenIdle_of_busy hidle, whenIdle_of_busy (hrk ▸ hidle), hhold]

/-- A change `g` of the state that leaves `RK` alone passes through a byte take if it passes through its two outcomes. -/
theorem whenBusy_comm {g : State → State} {s : State} {k : State → State} (hrk : (g s).rk = s.rk)
    (hk : s.rk ≠ .none → k (g s) = g (k s)) (hhold : (g s).hold .t = g (s.hold .t)) :
    (g s).whenBusy k = g (s.whenBusy k) := by
  by_cases hidle : s.rk = .none
  · simp [State.whenBusy, State.tBusy, hrk, hidle, hhold]
  · simp [State.whenBusy, State.tBusy, hrk, hidle, hk hidle]

/-! ### The meaning of an operation -/

/-- What an operation of a port does to the state: the shapes that the nine meanings have (30_encoding.md R79). A port-C
operation computes the new `ACC` and `c_match` from the old `ACC` alone. -/
inductive Meaning : Format → (State → State) → Prop
  | service (v : Byte → Byte) (m : Byte → Option Bool) :
      Meaning .c fun s => (s.writeAcc (v s.acc)).presentSum (m s.acc)
  | probe (w : LinkWord) (k : ReplyKind) (hk : k = .ready ∨ k = .alt) :
      Meaning .l fun s => s.whenIdle w fun s => (s.beginReply k).quiet
  | request (w : LinkWord) : Meaning .l fun s => s.whenIdle w fun s => (s.beginReply .telem).sampleFields.quiet
  | ignore (w : LinkWord) : Meaning .l fun s => s.whenIdle w State.quiet
  | take : Meaning .t fun s => s.whenBusy State.emit

/-- Every operation completes, and does one of these things. -/
theorem exec_meaning (i : Instr) : ∃ f, Meaning i.format f ∧ ∀ s, exec i s = .next (f s) := by
  cases i with
  | csClr => exact ⟨_, .service (fun _ => 0x00#8) (fun _ => none), fun _ => rfl⟩
  | csAdd d => exact ⟨_, .service (· + byteOperand d) (fun _ => none), fun _ => rfl⟩
  | csRd => exact ⟨_, .service id (fun _ => none), fun _ => rfl⟩
  | csVfy e => exact ⟨_, .service id (fun acc => some (acc == byteOperand e)), fun _ => rfl⟩
  | probeReady => exact ⟨_, .probe _ .ready (.inl rfl), fun _ => rfl⟩
  | requestTelemetry => exact ⟨_, .request _, fun _ => rfl⟩
  | probeAlt => exact ⟨_, .probe _ .alt (.inr rfl), fun _ => rfl⟩
  | lUnrec w => exact ⟨_, .ignore w, fun _ => rfl⟩
  | txEmit => exact ⟨_, .take, fun _ => rfl⟩

/-! ### Which event a step performs -/

/-- The first enabled event is chosen, and the events before it keep their places (42_command_decode.md R179). -/
theorem nextEvent_append_enabled (s : State) (pre post : List Event) (e : Event)
    (hpre : ∀ x ∈ pre, s.enables x = false) (he : s.enables e = true) :
    s.nextEvent (pre ++ e :: post) = some (e, pre ++ post) := by
  induction pre with
  | nil => exact nextEvent_cons_enabled s e post he
  | cons x xs ih =>
    obtain ⟨hx, hxs⟩ := List.forall_mem_cons.mp hpre
    rw [List.cons_append, nextEvent_cons_disabled s x _ hx, ih hxs]
    rfl

/-- With nothing enabled nothing is chosen. -/
theorem nextEvent_eq_none (s : State) (es : List Event) (h : ∀ x ∈ es, s.enables x = false) :
    s.nextEvent es = none := by
  induction es with
  | nil => rfl
  | cons x xs ih =>
    obtain ⟨hx, hxs⟩ := List.forall_mem_cons.mp h
    rw [nextEvent_cons_disabled s x xs hx, ih hxs]
    rfl

/-- The choice looks at no register but `RK`. -/
theorem nextEvent_congr (s t : State) (h : s.rk = t.rk) (es : List Event) : s.nextEvent es = t.nextEvent es := by
  induction es with
  | nil => rfl
  | cons x xs ih => simp only [State.nextEvent, enables_congr s t h x, ih]

theorem step_of_nextEvent_none {s : State} (h : s.nextEvent s.agenda = none) : step s = .next s.quiet := by
  simp [step, stepEvent, h]

theorem step_of_nextEvent_some {s : State} {e : Event} {rest : List Event}
    (h : s.nextEvent s.agenda = some (e, rest)) : step s = perform e { s with agenda := rest } := by
  simp [step, stepEvent, h]

/-- The two things a step can do: nothing, or the performance of the event that is chosen. -/
theorem step_cases (s : State) :
    (s.nextEvent s.agenda = none ∧ step s = .next s.quiet) ∨
    ∃ e rest, s.nextEvent s.agenda = some (e, rest) ∧ step s = perform e { s with agenda := rest } := by
  cases h : s.nextEvent s.agenda with
  | none => exact .inl ⟨rfl, step_of_nextEvent_none h⟩
  | some x => exact .inr ⟨x.1, x.2, rfl, step_of_nextEvent_some h⟩

/-- What does not speak of the agenda and survives a silent step and every event survives a step. -/
theorem step_preserves {P : State → Prop} (hagenda : ∀ s es, P s → P { s with agenda := es })
    (hquiet : ∀ s, P s → P s.quiet) (hperform : ∀ e s t, P s → perform e s = .next t → P t)
    {s t : State} (hs : P s) (hstep : step s = .next t) : P t := by
  obtain ⟨-, heq⟩ | ⟨e, rest, -, heq⟩ := step_cases s
  · obtain rfl : s.quiet = t := by simpa [heq] using hstep
    exact hquiet s hs
  · exact hperform e _ t (hagenda s rest hs) (heq ▸ hstep)

/-- What survives every operation, a reset and a change of port F survives every event. -/
theorem perform_preserves {P : State → Prop} (hop : ∀ p f s, Meaning p f → P s → P (f s))
    (hdrive : ∀ (v : PortF) s, P s → P { s.quiet with portF := v }) (hrst : ∀ s, P s → P s.assertReset)
    (e : Event) (s t : State) (hs : P s) (hperform : perform e s = .next t) : P t := by
  cases e with
  | op p =>
    obtain ⟨f, hf, hexec⟩ := exec_meaning (decode p)
    obtain rfl : f s = t := by simpa [perform, hexec] using hperform
    exact hop _ f s hf hs
  | drive v =>
    obtain rfl : { s.quiet with portF := v } = t := by simpa [perform] using hperform
    exact hdrive v s hs
  | rst =>
    obtain rfl : s.assertReset = t := by simpa [perform] using hperform
    exact hrst s hs

/-! ## The invariant on RK, IDX and FACC (10_state.md R32) -/

/-- The checksum of a sequence is the sum of the checksums of its parts (40_checksum.md R108). -/
theorem checksum_append (as bs : List Byte) : checksum (as ++ bs) = checksum as + checksum bs := by
  induction as with
  | nil => simp
  | cons a as ih => simp [ih, BitVec.add_assoc]

/-- The running sum that `FACC` follows: one more data byte of the frame adds that byte (41_frame_structurer.md R139). -/
theorem checksum_data_take_succ (F : Vector Byte 14) (sel : BitVec 1) (P : Vector Byte 10) {i : Nat} (hi : i ≤ 50) :
    checksum ((data F sel P).take (i + 1)) = checksum ((data F sel P).take i) + dataByte F sel P i := by
  rw [List.take_add_one, dataByte_eq F sel P i hi, checksum_append]
  simp

theorem inv_of_idle {s : State} (hrk : s.rk = .none) (hidx : s.idx = 0#6) : s.Inv := by
  simp [State.Inv, hrk, hidx]

theorem inv_of_oneByteReply {s : State} (hrk : s.rk = .ready ∨ s.rk = .alt) (hidx : s.idx = 0#6) : s.Inv := by
  rcases hrk with hrk | hrk <;> simp [State.Inv, hrk, hidx]

theorem inv_of_telemetry {s : State} (hrk : s.rk = .telem) (hidx : s.idx.toNat ≤ 51)
    (hfacc : s.facc = checksum ((data s.fld s.sel s.cfg.pad).take s.idx.toNat)) : s.Inv := by
  simp [State.Inv, hrk, hidx, ← hfacc]

/-- In a state that meets the invariant only a telemetry reply, at `IDX <= 50`, has a byte after the next one. -/
theorem telem_of_not_lastByte {s : State} (hinv : s.Inv) (hbusy : s.rk ≠ .none) (hlast : s.lastByte = false) :
    s.rk = .telem ∧ s.idx.toNat ≤ 50 := by
  obtain ⟨-, hone, htelem⟩ := hinv
  cases hrk : s.rk with
  | none => exact absurd hrk hbusy
  | ready => simp [State.lastByte, hrk, hone (.inl hrk), replyLength] at hlast
  | alt => simp [State.lastByte, hrk, hone (.inr hrk), replyLength] at hlast
  | telem =>
    have hle : s.idx.toNat ≤ 51 := (htelem hrk).1
    have hne : s.idx.toNat ≠ 51 := by simpa [State.lastByte, hrk, replyLength, Config.frameLen] using hlast
    exact ⟨rfl, by omega⟩

/-- Taking a byte keeps the invariant: the last byte returns to idle, an earlier one extends the running sum. -/
theorem emit_keeps_inv {s : State} (hinv : s.Inv) (hbusy : s.rk ≠ .none) : s.emit.Inv := by
  obtain ⟨-, heq⟩ | ⟨hlast, heq⟩ := emit_cases s <;> rw [heq]
  · exact inv_of_idle rfl rfl
  · obtain ⟨hrk, hidx⟩ := telem_of_not_lastByte hinv hbusy hlast
    have hsucc : (s.idx + 1#6).toNat = s.idx.toNat + 1 := by bv_omega
    have hfacc : s.facc = checksum ((data s.fld s.sel s.cfg.pad).take s.idx.toNat) := by
      simpa [show min s.idx.toNat 51 = s.idx.toNat by omega] using (hinv.2.2 hrk).2
    refine inv_of_telemetry hrk (by simp only [hsucc]; omega) ?_
    calc nextFacc s = s.facc + dataByte s.fld s.sel s.cfg.pad s.idx.toNat := by
          simp [nextFacc, telemByte, hrk, hidx]
      _ = checksum ((data s.fld s.sel s.cfg.pad).take (s.idx + 1#6).toNat) := by
          rw [hsucc, checksum_data_take_succ _ _ _ hidx, ← hfacc]

/-- Every operation keeps the invariant. -/
theorem Meaning.keeps_inv {p : Format} {f : State → State} (hf : Meaning p f) {s : State} (hinv : s.Inv) :
    (f s).Inv := by
  cases hf with
  | service v m => exact hinv
  | probe w k hk => exact whenIdle_ind (fun _ => inv_of_oneByteReply hk rfl) hinv
  | request w => exact whenIdle_ind (fun _ => inv_of_telemetry rfl (by simp) (by simp)) hinv
  | ignore w => exact whenIdle_ind (fun _ => hinv) hinv
  | take => exact whenBusy_ind (emit_keeps_inv hinv) hinv

/-- Settles O9: the reset state is idle with `IDX = 0`. -/
theorem resetMeetsInvariant : Obligations.ResetMeetsInvariant := inv_of_idle rfl rfl

/-- Settles O10: every operation keeps the invariant, a change of port F touches none of its registers, and a reset ends in
an idle state. -/
theorem stepKeepsInvariant : Obligations.StepKeepsInvariant := fun _ _ =>
  step_preserves (fun _ _ hinv => hinv) (fun _ hinv => hinv) <|
    perform_preserves (fun _ _ _ hf hinv => hf.keeps_inv hinv) (fun _ _ hinv => hinv)
      (fun _ _ => inv_of_idle rfl rfl)

/-! ## The constant PAD -/

@[simp] theorem emit_cfg (s : State) : s.emit.cfg = s.cfg := by
  obtain ⟨-, heq⟩ | ⟨-, heq⟩ := emit_cases s <;> rw [heq]

theorem Meaning.keeps_cfg {p : Format} {f : State → State} (hf : Meaning p f) (s : State) : (f s).cfg = s.cfg := by
  cases hf with
  | service v m => rfl
  | probe w k hk => exact whenIdle_ind (P := fun t => t.cfg = s.cfg) (fun _ => rfl) rfl
  | request w => exact whenIdle_ind (P := fun t => t.cfg = s.cfg) (fun _ => rfl) rfl
  | ignore w => exact whenIdle_ind (P := fun t => t.cfg = s.cfg) (fun _ => rfl) rfl
  | take => exact whenBusy_ind (P := fun t => t.cfg = s.cfg) (fun _ => emit_cfg s) rfl

/-- Settles O29: no operation writes `cfg`, and neither does a change of port F or a reset. -/
theorem noStepWritesThePads : Obligations.NoStepWritesThePads := fun s _ =>
  step_preserves (P := fun t => t.cfg = s.cfg) (fun _ _ h => h) (fun _ h => h)
    (perform_preserves (fun _ _ t hf h => (hf.keeps_cfg t).trans h) (fun _ _ h => h) (fun _ h => h)) rfl

/-! ## The step, its events and the status outputs -/

/-- Settles O11, by the law of the choice over the events before the first enabled one. -/
theorem stepPerformsTheFirstEnabledEvent : Obligations.StepPerformsTheFirstEnabledEvent := by
  intro s pre post e hagenda hpre he
  apply step_of_nextEvent_some
  rw [hagenda, nextEvent_append_enabled s pre post e hpre he]

/-- Settles O14. -/
theorem nothingEnabledNothingHappens : Obligations.NothingEnabledNothingHappens := fun s h =>
  step_of_nextEvent_none (nextEvent_eq_none s s.agenda h)

/-- The encoding of a well-formed operation decodes to it (30_encoding.md R79, R84). -/
theorem decode_encode (i : Instr) (hwf : i.wf = true) : decode (encode i) = i := by
  cases i with
  | csClr | csRd | probeReady | requestTelemetry | probeAlt | txEmit => decide
  | csAdd d => simp [encode, decode, decodeService]
  | csVfy e => simp [encode, decode, decodeService]
  | lUnrec w =>
    have hw : w ≠ 0x1000#16 ∧ w ≠ 0x2000#16 ∧ w ≠ 0x5000#16 := by simpa [Instr.wf, recognisedWords] using hwf
    simp [encode, decode, decodeLink, hw]

/-- An enabled event at the head of the agenda is the one performed. -/
theorem step_head_enabled {s : State} {e : Event} {rest : List Event} (hagenda : s.agenda = e :: rest)
    (he : s.enables e = true) : step s = perform e { s with agenda := rest } :=
  stepPerformsTheFirstEnabledEvent s [] rest e hagenda (by simp) he

/-- Settles O12: performing a port word is executing its decoding, and decoding undoes encoding. -/
theorem stepRunsTheDecodedOperation : Obligations.StepRunsTheDecodedOperation := by
  refine ⟨fun s p rest hagenda he => step_head_enabled hagenda he, fun s i rest hwf hagenda he => ?_⟩
  rw [step_head_enabled hagenda he]
  simp only [eventOf, perform, decode_encode i hwf]

/-- Settles O32. -/
theorem statusOutputsFollowTheReplyKind : Obligations.StatusOutputsFollowTheReplyKind := by
  refine fun s => ⟨tBusy_iff s, lReady_iff s, lReady_eq_not_tBusy s, fun w => ?_⟩
  calc s.enables (.op (.l w)) = !s.tBusy := lReady_eq_not_tBusy s
    _ ≠ s.tBusy := Bool.not_ne_self _

/-- Settles O49: performing a change of port F is the writing of the pins. -/
theorem drivingPortFMovesOnlyThePins : Obligations.DrivingPortFMovesOnlyThePins := fun _ _ => ⟨rfl, rfl⟩

/-! ## ACC and FACC are separate (10_state.md R31) -/

theorem advance_writeAcc (s : State) (a : Byte) (last : Bool) :
    (s.writeAcc a).advance last = (s.advance last).writeAcc a := by
  cases last <;> rfl

theorem emit_writeAcc (s : State) (a : Byte) : (s.writeAcc a).emit = s.emit.writeAcc a :=
  congrArg (·.presentByte (replyByte s) s.lastByte) (advance_writeAcc { s with facc := nextFacc s } a s.lastByte)

/-- An operation of port L or T does not depend on `ACC`: a value put there stays there and shows nowhere else. -/
theorem Meaning.writeAcc_comm {p : Format} {f : State → State} (hf : Meaning p f) (hp : p ≠ .c) (s : State) (a : Byte) :
    f (s.writeAcc a) = (f s).writeAcc a := by
  cases hf with
  | service v m => exact absurd rfl hp
  | probe w k hk => exact whenIdle_comm (g := (·.writeAcc a)) rfl rfl rfl
  | request w => exact whenIdle_comm (g := (·.writeAcc a)) rfl rfl rfl
  | ignore w => exact whenIdle_comm (g := (·.writeAcc a)) rfl rfl rfl
  | take => exact whenBusy_comm (g := (·.writeAcc a)) rfl (fun _ => emit_writeAcc s a) rfl

/-- A change `g` of the state that `ACC` and the outputs do not feel passes through a port-C operation. -/
theorem Meaning.service_comm {f : State → State} (hf : Meaning .c f) {g : State → State} {s : State}
    (hacc : (g s).acc = s.acc)
    (hg : ∀ v m, ((g s).writeAcc v).presentSum m = g ((s.writeAcc v).presentSum m)) : f (g s) = g (f s) := by
  cases hf with
  | service v m => simp only [hacc, hg]

/-- Settles O26: the value in `ACC` passes unchanged through every operation of ports L and T, the value in `FACC` through
every operation of port C. That the operation leaves the value as it is, is the case of the value already there. -/
theorem accumulatorsAreSeparate : Obligations.AccumulatorsAreSeparate := by
  refine ⟨fun i s t a hport hexec => ?_, fun i s t a hport hexec => ?_⟩ <;>
    obtain ⟨f, hf, hmeaning⟩ := exec_meaning i <;>
    obtain rfl : f s = t := by simpa [hmeaning] using hexec
  · have hcomm := hf.writeAcc_comm hport s
    exact ⟨(congrArg State.acc (hcomm s.acc) :), (hmeaning _).trans (congrArg Host.Outcome.next (hcomm a))⟩
  · have hcomm (v : Byte) : f { s with facc := v } = { f s with facc := v } :=
      (hport ▸ hf).service_comm (g := ({ · with facc := v })) rfl fun _ _ => rfl
    exact ⟨(congrArg State.facc (hcomm s.facc) :), (hmeaning _).trans (congrArg Host.Outcome.next (hcomm a))⟩

/-! ## FLD, SEL and FACC show nowhere outside a telemetry reply (10_state.md R30, R33) -/

/-- The registers that only a telemetry reply reads, rewritten: the fields, the select and `FACC` (10_state.md R30, R33). -/
def State.writeHidden (s : State) (F : Vector Byte 14) (b : BitVec 1) (a : Byte) : State :=
  { s with fld := F, sel := b, facc := a }

@[simp] theorem writeHidden_rk (s : State) (F : Vector Byte 14) (b : BitVec 1) (a : Byte) :
    (s.writeHidden F b a).rk = s.rk := rfl

theorem replyByte_writeHidden {s : State} (h : s.rk ≠ .telem) (F : Vector Byte 14) (b : BitVec 1) (a : Byte) :
    replyByte (s.writeHidden F b a) = replyByte s := by
  cases hrk : s.rk with
  | telem => exact absurd hrk h
  | none | ready | alt => simp [replyByte, State.writeHidden, hrk]

theorem nextFacc_of_not_telem {s : State} (h : s.rk ≠ .telem) : nextFacc s = s.facc := by
  simp [nextFacc, h]

theorem advance_writeHidden (s : State) (F : Vector Byte 14) (b : BitVec 1) (a : Byte) (last : Bool) :
    (s.writeHidden F b a).advance last = (s.advance last).writeHidden F b a := by
  cases last <;> rfl

/-- A byte of a one-byte reply comes from neither the fields nor the select nor `FACC`, and moves none of them. -/
theorem emit_writeHidden {s : State} (h : s.rk ≠ .telem) (F : Vector Byte 14) (b : BitVec 1) (a : Byte) :
    (s.writeHidden F b a).emit = s.emit.writeHidden F b a := by
  have h' : (s.writeHidden F b a).rk ≠ .telem := h
  calc (s.writeHidden F b a).emit
      = ((s.writeHidden F b a).advance s.lastByte).presentByte (replyByte s) s.lastByte := by
        rw [State.emit, nextFacc_of_not_telem h', replyByte_writeHidden h]
        rfl
    _ = s.emit.writeHidden F b a := by
        rw [State.emit, nextFacc_of_not_telem h, advance_writeHidden]
        rfl

/-- The taking of a byte begins no reply. -/
theorem emit_rk_ne_telem {s : State} (h : s.rk ≠ .telem) : s.emit.rk ≠ .telem := by
  obtain ⟨-, heq⟩ | ⟨-, heq⟩ := emit_cases s <;> rw [heq]
  · exact ReplyKind.noConfusion
  · exact h

/-- What the hidden registers hold is overwritten by an outcome, or it passes through unseen to a state that is again
outside a telemetry reply. `next` and `next'` are the outcomes from a state and from the state with other hidden values. -/
def HiddenPasses (F : Vector Byte 14) (b : BitVec 1) (a : Byte) (next next' : State) : Prop :=
  next' = next ∨ next.rk ≠ .telem ∧ next' = next.writeHidden F b a

/-- A request overwrites the hidden registers; no other operation outside a telemetry reply touches them. -/
theorem Meaning.hiddenPasses {p : Format} {f : State → State} (hf : Meaning p f) {s : State} (h : s.rk ≠ .telem)
    (F : Vector Byte 14) (b : BitVec 1) (a : Byte) : HiddenPasses F b a (f s) (f (s.writeHidden F b a)) := by
  cases hf with
  | service v m => exact .inr ⟨h, rfl⟩
  | probe w k hk =>
    have hk' : k ≠ .telem := by rintro rfl; simp at hk
    exact .inr ⟨whenIdle_ind (P := (·.rk ≠ .telem)) (fun _ => hk') h,
      whenIdle_comm (g := (·.writeHidden F b a)) rfl rfl rfl⟩
  | request w =>
    beta_reduce
    by_cases hidle : s.rk = .none
    · rw [whenIdle_of_idle hidle, whenIdle_of_idle (s := s.writeHidden F b a) hidle]
      exact .inl rfl
    · rw [whenIdle_of_busy hidle, whenIdle_of_busy (s := s.writeHidden F b a) hidle]
      exact .inr ⟨h, rfl⟩
  | ignore w =>
    exact .inr ⟨whenIdle_ind (P := (·.rk ≠ .telem)) (fun _ => h) h,
      whenIdle_comm (g := (·.writeHidden F b a)) rfl rfl rfl⟩
  | take =>
    exact .inr ⟨whenBusy_ind (P := (·.rk ≠ .telem)) (fun _ => emit_rk_ne_telem h) h,
      whenBusy_comm (g := (·.writeHidden F b a)) rfl (fun _ => emit_writeHidden h F b a) rfl⟩

/-- A change of port F leaves the hidden registers, a reset overwrites them. -/
theorem perform_hiddenPasses (e : Event) {s : State} (h : s.rk ≠ .telem) (F : Vector Byte 14) (b : BitVec 1) (a : Byte) :
    ∃ t t', perform e s = .next t ∧ perform e (s.writeHidden F b a) = .next t' ∧ HiddenPasses F b a t t' := by
  cases e with
  | op p =>
    obtain ⟨f, hf, hmeaning⟩ := exec_meaning (decode p)
    exact ⟨f s, _, hmeaning s, hmeaning _, hf.hiddenPasses h F b a⟩
  | drive v => exact ⟨_, _, rfl, rfl, .inr ⟨h, rfl⟩⟩
  | rst => exact ⟨_, _, rfl, rfl, .inl rfl⟩

/-- The step performs the same event whatever the hidden registers hold, as the choice looks at `RK` only. -/
theorem step_hiddenPasses {s : State} (h : s.rk ≠ .telem) (F : Vector Byte 14) (b : BitVec 1) (a : Byte) :
    ∃ t t', step s = .next t ∧ step (s.writeHidden F b a) = .next t' ∧ HiddenPasses F b a t t' := by
  have hsame : (s.writeHidden F b a).nextEvent s.agenda = s.nextEvent s.agenda :=
    nextEvent_congr _ _ (writeHidden_rk s F b a) _
  obtain ⟨hnone, hstep⟩ | ⟨e, rest, hsome, hstep⟩ := step_cases s
  · exact ⟨_, _, hstep, step_of_nextEvent_none (hsame.trans hnone), .inr ⟨h, rfl⟩⟩
  · rw [hstep, step_of_nextEvent_some (hsame.trans hsome)]
    exact perform_hiddenPasses e (s := { s with agenda := rest }) h F b a

theorem observe_succ {s t : State} (h : step s = .next t) (k : Nat) :
    observe (k + 1) s = ⟨t.out, t.lReady, t.tBusy⟩ :: observe k t := by
  simp [observe, h]

/-- Settles O33, by induction on the length of the run: after each step the two runs are in one state, or again in two states
outside a telemetry reply that show the same. -/
theorem hiddenStateIsDeadBetweenFrames : Obligations.HiddenStateIsDeadBetweenFrames := by
  intro k
  induction k with
  | zero => exact fun _ _ _ _ _ => rfl
  | succ k ih =>
    intro s F b a h
    obtain ⟨t, t', hstep, hstep', rfl | ⟨ht, rfl⟩⟩ := step_hiddenPasses h F b a
    · exact (observe_succ hstep' k).trans (observe_succ hstep k).symm
    · calc observe (k + 1) (s.writeHidden F b a)
          = ⟨t.out, t.lReady, t.tBusy⟩ :: observe k (t.writeHidden F b a) := observe_succ hstep' k
        _ = ⟨t.out, t.lReady, t.tBusy⟩ :: observe k t := congrArg _ (ih t F b a ht)
        _ = observe (k + 1) s := (observe_succ hstep k).symm
end Sys2Proof.Machine
end

section
/-! ## Operations of different units commute (20_memory.md R59)

A port-C operation reads and writes `ACC` and the outputs only. An operation of port L or T reads neither: `ACC` passes
through it (R31), and the outputs are overwritten. -/

namespace Sys2Proof.Machine

/-! ### The port of a decoded word -/

theorem decodeService_format (w : ServiceWord) : (decodeService w).format = .c := by
  unfold decodeService
  split_ifs <;> rfl

theorem decodeLink_format (w : LinkWord) : (decodeLink w).format = .l := by
  unfold decodeLink
  split_ifs <;> rfl

/-- A word decodes to an operation of the port it stands on (30_encoding.md R84). -/
theorem decode_format (p : PortWord) : (decode p).format = p.format := by
  cases p with
  | c w => exact decodeService_format w
  | l w => exact decodeLink_format w
  | t => rfl

/-- Executing a word has one of the meanings of the port it stands on. -/
theorem exec_decode_meaning (p : PortWord) : ∃ f, Meaning p.format f ∧ ∀ s, exec (decode p) s = .next (f s) :=
  decode_format p ▸ exec_meaning (decode p)

/-! ### The outputs of the last step are not read -/

theorem advance_withOut (s : State) (o : Outputs) (last : Bool) :
    { s with out := o }.advance last = { s.advance last with out := o } := by
  cases last <;> rfl

theorem emit_withOut (s : State) (o : Outputs) : { s with out := o }.emit = s.emit :=
  congrArg (·.presentByte (replyByte s) s.lastByte) (advance_withOut { s with facc := nextFacc s } o s.lastByte)

/-- No operation depends on what the step before it presented: the outputs are no registers (10_state.md R22). -/
theorem Meaning.withOut {p : Format} {f : State → State} (hf : Meaning p f) (s : State) (o : Outputs) :
    f { s with out := o } = f s := by
  cases hf with
  | service v m => rfl
  | probe w k hk => rfl
  | request w => rfl
  | ignore w => rfl
  | take => exact congrArg (fun t => if s.tBusy then t else s.hold .t) (emit_withOut s o)

/-! ### The two orders -/

/-- What a port-C operation writes is the `ACC` and the outputs that it computes from `ACC` alone. -/
theorem Meaning.service_eq {f : State → State} (hf : Meaning .c f) {s t : State} (hacc : t.acc = s.acc) :
    f t = { t.writeAcc (f s).acc with out := (f s).out } := by
  cases hf with
  | service v m => simp [State.presentSum, Outputs.silent, hacc]

/-- An operation of port L or T leaves `ACC` as it is (10_state.md R31). -/
theorem Meaning.keeps_acc {p : Format} {g : State → State} (hg : Meaning p g) (hp : p ≠ .c) (s : State) :
    (g s).acc = s.acc :=
  (congrArg State.acc (hg.writeAcc_comm hp s s.acc) :)

/-- Port C first: the other operation does what it does from `s`, with the new `ACC` standing in the state. -/
theorem Meaning.after_service {p : Format} {f g : State → State} (hf : Meaning .c f) (hg : Meaning p g) (hp : p ≠ .c)
    (s : State) : g (f s) = (g s).writeAcc (f s).acc := by
  calc g (f s) = g { s.writeAcc (f s).acc with out := (f s).out } := congrArg g (hf.service_eq rfl)
    _ = g (s.writeAcc (f s).acc) := hg.withOut _ _
    _ = (g s).writeAcc (f s).acc := hg.writeAcc_comm hp s _

/-- Port C last: it does to the other operation's outcome what it does to `s`. -/
theorem Meaning.before_service {p : Format} {f g : State → State} (hf : Meaning .c f) (hg : Meaning p g) (hp : p ≠ .c)
    (s : State) : f (g s) = { (g s).writeAcc (f s).acc with out := (f s).out } :=
  hf.service_eq (hg.keeps_acc hp s)

/-- Settles O27: in either order the other operation does its work on `s` and port C puts in the same `ACC`; the operation
performed last has its outputs standing. Where the other operation is not enabled, its wait is one of its outcomes and
commutes in the same way. -/
theorem operationsOfDifferentUnitsCommute : Obligations.OperationsOfDifferentUnitsCommute := by
  intro w p s hp
  obtain ⟨f, hf, hservice⟩ := exec_decode_meaning (.c w)
  obtain ⟨g, hg, hother⟩ := exec_decode_meaning p
  have hfirst : g (f s) = (g s).writeAcc (f s).acc := hf.after_service hg hp s
  have hlast : f (g s) = { (g s).writeAcc (f s).acc with out := (f s).out } := hf.before_service hg hp s
  refine ⟨f s, g (f s), g s, f (g s), hservice s, hother _, hother s, hservice _, ?_, ?_, ?_⟩
  · rw [hlast]
  · rw [hfirst, writeAcc_out]
  · rw [hfirst, hlast]

end Sys2Proof.Machine
end

section
/-! ## Encoding (spec/30_encoding.md)

What the decoder says of a word, once per port: on port C the code decides, on port L the whole word. The encoding
statements, the placing of table words and the run of a pseudo-operation follow from these and from the laws of the step. -/

namespace Sys2Proof.Machine

/-- Settles O2, by the cases of the operation. -/
theorem decodeOfEncodeIsIdentity : Obligations.DecodeOfEncodeIsIdentity := decode_encode

/-! ### The decoder, case by case (R71, R72, R84) -/

theorem decode_of_cOp_clr {w : ServiceWord} (h : cOp w = 0b00#2) : decode (.c w) = .csClr := by
  simp [decode, decodeService, h]

theorem decode_of_cOp_add {w : ServiceWord} (h : cOp w = 0b01#2) : decode (.c w) = .csAdd (cData w) := by
  simp [decode, decodeService, h]

theorem decode_of_cOp_rd {w : ServiceWord} (h : cOp w = 0b10#2) : decode (.c w) = .csRd := by
  simp [decode, decodeService, h]

theorem decode_of_cOp_vfy {w : ServiceWord} (h : cOp w = 0b11#2) : decode (.c w) = .csVfy (cData w) := by
  simp [decode, decodeService, h]

/-- A word that is none of the three opcodes is `L.UNREC` (R80). -/
theorem decode_link_unrecognised {w : LinkWord} (h : w ≠ 0x1000#16 ∧ w ≠ 0x2000#16 ∧ w ≠ 0x5000#16) :
    decode (.l w) = .lUnrec w := by
  simp [decode, decodeLink, h]

/-- A link word is one of the three opcodes, or it is none of them (R72, R80). -/
theorem linkWord_cases (w : LinkWord) :
    w = 0x1000#16 ∨ w = 0x2000#16 ∨ w = 0x5000#16 ∨ w ≠ 0x1000#16 ∧ w ≠ 0x2000#16 ∧ w ≠ 0x5000#16 := by
  tauto

/-- Settles O5: the code decides, and unpacking gives back the packed code and byte. -/
theorem everyServiceWordIsLegal : Obligations.EveryServiceWordIsLegal := fun d =>
  ⟨decode_of_cOp_clr (cOp_serviceWord _ d),
    (decode_of_cOp_add (cOp_serviceWord _ d)).trans (congrArg Instr.csAdd (cData_serviceWord _ d)),
    decode_of_cOp_rd (cOp_serviceWord _ d),
    (decode_of_cOp_vfy (cOp_serviceWord _ d)).trans (congrArg Instr.csVfy (cData_serviceWord _ d))⟩

/-- Settles O1, by running the decoder on the nine words. -/
theorem sampleWordsDecode : Obligations.SampleWordsDecode := by
  unfold Obligations.SampleWordsDecode
  decide

/-! ### Encoding what was decoded (R81, R84) -/

/-- The decoder gives no ill-formed operation: `L.UNREC` only over words that are no opcode. -/
theorem decode_wf (p : PortWord) : (decode p).wf = true := by
  cases p with
  | c w =>
    obtain h | h | h | h := cOp_cases w
    · rw [decode_of_cOp_clr h]; rfl
    · rw [decode_of_cOp_add h]; rfl
    · rw [decode_of_cOp_rd h]; rfl
    · rw [decode_of_cOp_vfy h]; rfl
  | l w =>
    obtain rfl | rfl | rfl | h := linkWord_cases w
    · rfl
    · rfl
    · rfl
    · simp [decode_link_unrecognised h, Instr.wf, recognisedWords, h]
  | t => rfl

/-- A service word is the packing of its code and its data byte. -/
theorem serviceWord_of_cOp {w : ServiceWord} {op : BitVec 2} (h : cOp w = op) : serviceWord op (cData w) = w :=
  h ▸ serviceWord_cOp_cData w

theorem encode_decode_link (w : LinkWord) : encode (decode (.l w)) = .l w := by
  obtain rfl | rfl | rfl | h := linkWord_cases w
  · rfl
  · rfl
  · rfl
  · rw [decode_link_unrecognised h]
    rfl

/-- Settles O3, by the code of a service word and by the opcode of a link word. -/
theorem encodeOfDecodeLosesOnlyDontCareBits : Obligations.EncodeOfDecodeLosesOnlyDontCareBits := by
  refine ⟨fun p => ⟨decode_wf p, decode_format p⟩, fun w h => ?dontCare, fun w h => ?operand, encode_decode_link, rfl⟩
  case dontCare =>
    obtain h | h := h
    · rw [decode_of_cOp_clr h, h]; rfl
    · rw [decode_of_cOp_rd h, h]; rfl
  case operand =>
    obtain h | h := h
    · rw [decode_of_cOp_add h]
      exact congrArg PortWord.c (serviceWord_of_cOp h)
    · rw [decode_of_cOp_vfy h]
      exact congrArg PortWord.c (serviceWord_of_cOp h)

/-! ### The opcode map (R79) -/

/-- The first row of the opcode map that selects a word. -/
def firstRow (p : PortWord) : Option OpcodeRow := opcodeTable.find? fun r => r.selects p

/-- The mask of the four rows of port C leaves the code. -/
theorem and_mask_eq_cOp (w : ServiceWord) : w.toNat &&& 0x300 = (cOp w).toNat * 256 := by
  simpa using Laws.RowSelects.serviceWord_mask (cOp w) (cData w)

/-- The rows of port C have the code in bits [9:8] of their match value. -/
theorem firstRow_service (w : ServiceWord) : firstRow (.c w) = opcodeTable[(cOp w).toNat]? := by
  obtain h | h | h | h := cOp_cases w <;>
    simp [firstRow, opcodeTable, OpcodeRow.selects, PortWord.format, PortWord.bits, and_mask_eq_cOp, h]

/-- The mask of the three opcode rows leaves the word, that of the default row nothing. -/
theorem firstRow_unrecognised {w : LinkWord} (h : w ≠ 0x1000#16 ∧ w ≠ 0x2000#16 ∧ w ≠ 0x5000#16) :
    firstRow (.l w) = some ⟨"L.UNREC", .l, 0x0000, 0x0000⟩ := by
  have hmask : w.toNat &&& 0xFFFF = w.toNat := Nat.and_two_pow_sub_one_of_lt_two_pow w.isLt
  have hmatch : w.toNat ≠ 0x1000 ∧ w.toNat ≠ 0x2000 ∧ w.toNat ≠ 0x5000 := by
    simpa [← BitVec.toNat_inj] using h
  simp [firstRow, opcodeTable, OpcodeRow.selects, PortWord.format, PortWord.bits, hmask, hmatch]

/-- Settles O4: the first row by the code of a service word and by the opcode of a link word, as the decoder goes. -/
theorem decodeFollowsOpcodeMap : Obligations.DecodeFollowsOpcodeMap := by
  intro p
  change (firstRow p).map OpcodeRow.mnemonic = some (decode p).mnemonic
  cases p with
  | c w =>
    rw [firstRow_service]
    obtain h | h | h | h := cOp_cases w
    · rw [decode_of_cOp_clr h, h]; rfl
    · rw [decode_of_cOp_add h, h]; rfl
    · rw [decode_of_cOp_rd h, h]; rfl
    · rw [decode_of_cOp_vfy h, h]; rfl
  | l w =>
    obtain rfl | rfl | rfl | h := linkWord_cases w
    · decide
    · decide
    · decide
    · rw [firstRow_unrecognised h, decode_link_unrecognised h]
      rfl
  | t => decide

/-! ### L.UNREC (R80, R174) -/

/-- Settles O6: an opcode decodes to an operation of its own, and `L.UNREC` on an idle block is a silent step. -/
theorem unrecognisedWordDoesNothing : Obligations.UnrecognisedWordDoesNothing := by
  refine ⟨fun w => ⟨fun h => ?_, decode_link_unrecognised⟩, fun w s hidle => ?_⟩
  · obtain rfl | rfl | rfl | hw := linkWord_cases w
    · simp [decode, decodeLink] at h
    · simp [decode, decodeLink] at h
    · simp [decode, decodeLink] at h
    · exact hw
  · exact congrArg Host.Outcome.next (whenIdle_of_idle hidle w State.quiet)

/-! ### Placed table words (R79) -/

/-- A port word is enabled when the block is idle for port L and busy for port T (42_command_decode.md R170, R176). -/
theorem enables_of_format {s : State} {p : PortWord} (hlink : p.format = .l → s.rk = .none)
    (htake : p.format = .t → s.rk ≠ .none) : s.enables (.op p) = true := by
  cases p with
  | c w => rfl
  | l w => exact (lReady_iff s).mpr (hlink rfl)
  | t => exact (tBusy_iff s).mpr (htake rfl)

theorem withFetchWord_of_tableWord {nbits w : Nat} {p : PortWord} (h : tableWord nbits w = some p) (s : State) :
    s.withFetchWord nbits w = { s with agenda := .op p :: s.agenda } := by
  simp [State.withFetchWord, placeWord, h]

/-- Settles O13: the placed word stands at the head of the agenda, and its port is that of the operation it decodes to. -/
theorem placedTableWordRunsNext : Obligations.PlacedTableWordRunsNext := by
  intro s nbits w i htable hlink htake
  obtain ⟨p, hp, rfl⟩ := Option.map_eq_some_iff.mp htable
  rw [decode_format] at hlink htake
  rw [withFetchWord_of_tableWord hp]
  exact step_head_enabled (s := { s with agenda := .op p :: s.agenda }) rfl (enables_of_format hlink htake)

/-! ### The runs of CS.SUM and CS.CHECK (R83; 40_checksum.md R106) -/

/-- A port-C operation at the head of the agenda is executed, whatever the state. -/
theorem step_service {s : State} {i : Instr} {rest : List Event} (hi : i.format = .c)
    (hagenda : s.agenda = eventOf i :: rest) : step s = exec i { s with agenda := rest } := by
  cases i with
  | csClr | csRd | csAdd d | csVfy e => exact stepRunsTheDecodedOperation.2 s _ rest rfl hagenda rfl
  | probeReady | requestTelemetry | probeAlt | lUnrec w | txEmit => cases hi

theorem run_succ {s t : State} (h : step s = .next t) (k : Nat) :
    Host.Core.run core (k + 1) s = Host.Core.run core k t := by
  have hstep : core.step s = .next t := h
  simp only [Host.Core.run, hstep]

theorem run_one (s : State) : Host.Core.run core 1 s = step s := by
  change _ = core.step s
  cases h : core.step s <;> simp only [Host.Core.run, h]

/-- No operation depends on what the step before it presented: states that differ in the outputs alone have one outcome. -/
theorem exec_eq_of_quiet_eq (i : Instr) {s t : State} (h : s.quiet = t.quiet) : exec i s = exec i t := by
  obtain ⟨f, hf, hmeaning⟩ := exec_meaning i
  have hquiet (u : State) : f u.quiet = f u := hf.withOut u Outputs.silent
  rw [hmeaning, hmeaning, ← hquiet s, h, hquiet]

/-- Bytes fed by `CS.ADD` add up in `ACC`, and the port-C operation after them finds their checksum added. -/
theorem run_adds_then {i : Instr} (hi : i.format = .c) (bs : List Byte) (s : State)
    (hagenda : s.agenda = (bs.map Instr.csAdd ++ [i]).map eventOf) :
    Host.Core.run core (bs.length + 1) s = exec i { s with acc := s.acc + checksum bs, agenda := [] } := by
  induction bs generalizing s with
  | nil =>
    refine (run_one s).trans ((step_service hi hagenda).trans ?_)
    simp
  | cons b bs ih =>
    refine (run_succ (step_service rfl hagenda) _).trans ((ih _ rfl).trans (exec_eq_of_quiet_eq i ?_))
    simp [State.quiet, byteOperand, BitVec.add_assoc]

/-- After a `CS.CLR` the operation finds the checksum itself, from any state. -/
theorem run_clear_adds_then {i : Instr} (hi : i.format = .c) (bs : List Byte) (s : State)
    (hagenda : s.agenda = (.csClr :: bs.map Instr.csAdd ++ [i]).map eventOf) :
    Host.Core.run core (bs.length + 2) s = exec i { s with acc := checksum bs, agenda := [] } := by
  refine (run_succ (step_service rfl hagenda) _).trans
    ((run_adds_then hi bs _ rfl).trans (exec_eq_of_quiet_eq i ?_))
  simp [State.quiet]

/-- Settles O39: `CS.RD` and `CS.VFY` present what the run before them left in `ACC`. -/
theorem sumAndCheckComputeTheFunctions : Obligations.SumAndCheckComputeTheFunctions := fun s bs e =>
  ⟨fun hsum => run_clear_adds_then (i := .csRd) rfl bs s hsum,
    fun hcheck => run_clear_adds_then (i := .csVfy e) rfl bs s hcheck⟩

/-! ### The Block (R76; 40_checksum.md R113) -/

/-- The checksum as a number is the sum of the unsigned bytes modulo 256 (40_checksum.md R100). -/
theorem checksum_toNat (bs : List Byte) : (checksum bs).toNat = (bs.map BitVec.toNat).sum % 256 := by
  simp [checksum]

theorem blockAccepted_block (payload : Vector Byte blockPayloadLength) (e : Byte) :
    blockAccepted (block payload e).toList = verify payload.toList e := by
  rw [block_toList, blockAccepted_append]

/-- The invariant of a Block, on the numbers its bytes stand for. -/
theorem verify_iff_toNat (bs : List Byte) (e : Byte) :
    verify bs e = true ↔ e.toNat = (bs.map BitVec.toNat).sum % 256 := by
  rw [verify_iff, ← checksum_toNat, BitVec.toNat_inj, eq_comm]

/-- Settles O50: a Block is its payload with one byte pushed, and acceptance verifies that byte against the payload. -/
theorem blockLayoutAndInvariant : Obligations.BlockLayoutAndInvariant := by
  refine ⟨fun payload e => ⟨(block payload e).length_toList, fun i => ?payload, ?checksum,
      blockPayload_block payload e, blockChecksum_block payload e⟩,
    fun b => ⟨block_payload_checksum b, ?accepted⟩, fun payload => ⟨blockPayload_block payload _, ?sent⟩⟩
  case payload => simp
  case checksum => simp
  case accepted =>
    rw [← verify_iff_toNat, ← blockAccepted_block, block_payload_checksum]
  case sent =>
    rw [sentBlock, blockAccepted_block, verify_iff]

end Sys2Proof.Machine
end

section
/-! ## The checksum and its unit (spec/40_checksum.md)

First `checksum` as a function: its laws, what it misses, and the messages that end with it. Then the four operations of
port C, and the run of an agenda, which performs every one of them. -/

namespace Sys2Proof.Machine

/-! ### The laws of the checksum (R100, R101, R108, R109) -/

/-- The checksum depends on the sum of the bytes alone, so not on their order. -/
theorem checksum_perm {as bs : List Byte} (h : as.Perm bs) : checksum as = checksum bs := by
  rw [checksum, checksum, (h.map BitVec.toNat).sum_eq]

/-- Adding in 8 bits, byte after byte, adds the checksum. -/
theorem foldl_add_eq_add_checksum (a : Byte) (bs : List Byte) : bs.foldl (· + ·) a = a + checksum bs := by
  induction bs generalizing a with
  | nil => simp
  | cons b bs ih => rw [List.foldl_cons, ih, checksum_cons, BitVec.add_assoc]

/-- Settles O36. -/
theorem checksumIsAHomomorphism : Obligations.ChecksumIsAHomomorphism :=
  ⟨checksum_append, fun _ _ => checksum_perm, foldl_add_eq_add_checksum⟩

/-- Settles O34. -/
theorem checksumIsTheSumModulo256 : Obligations.ChecksumIsTheSumModulo256 :=
  ⟨checksum_nil, fun bs => ⟨checksum_toNat bs, verify_iff bs⟩⟩

/-- A sequence verifies against its own checksum. -/
@[simp] theorem verify_checksum (bs : List Byte) : verify bs (checksum bs) = true :=
  (verify_iff bs _).mpr rfl

/-- Settles O35. -/
theorem checksumIsSelfConsistent : Obligations.ChecksumIsSelfConsistent := fun bs =>
  ⟨verify_checksum bs, fun e hne =>
    Bool.eq_false_iff.mpr fun hverify => hne ((verify_iff bs e).mp hverify).symm⟩

/-! ### What the checksum misses (R110) -/

/-- The checksum of three parts with a byte before each of the last two: the shape of a message changed in two places. -/
theorem checksum_two_bytes (as bs cs : List Byte) (x y : Byte) :
    checksum (as ++ x :: bs ++ y :: cs) = checksum as + checksum bs + checksum cs + (x + y) := by
  simp only [checksum_append, checksum_cons]
  ring

/-- Bytes all raised by one raise the checksum by their number. -/
theorem checksum_map_add_one (bs : List Byte) :
    checksum (bs.map (· + 1#8)) = checksum bs + BitVec.ofNat 8 bs.length := by
  induction bs with
  | nil => rfl
  | cons b bs ih =>
    rw [List.map_cons, checksum_cons, checksum_cons, ih, List.length_cons, BitVec.ofNat_add]
    ring

/-- Settles O37: each change leaves the sum modulo 256. -/
theorem checksumMissesCompensatedChanges : Obligations.ChecksumMissesCompensatedChanges := by
  refine ⟨fun bs => ?twice, fun as bs cs x y => ?swapped, fun as bs cs x y k => ?compensated,
    fun as bs => ?zero, fun bs hlen => ?raised, verify_checksum []⟩
  case twice =>
    rw [checksum_append, checksum_cons, checksum_nil, BitVec.add_zero, BitVec.toNat_add, Nat.two_mul]
  case swapped =>
    rw [checksum_two_bytes, checksum_two_bytes, BitVec.add_comm x]
  case compensated =>
    have hsum : x + k + (y - k) = x + y := by ring
    rw [checksum_two_bytes, checksum_two_bytes, hsum]
  case zero =>
    rw [checksum_append, checksum_append, checksum_cons, BitVec.zero_add]
  case raised =>
    rw [checksum_map_add_one, hlen]
    exact BitVec.add_zero _

/-! ### Messages that end with a checksum (R112, R113, R114) -/

theorem checksum_blockRequestHead (o : Byte) : checksum (blockRequestHead o) = 0xBC#8 + o := by
  have hfixed : checksum [0x5A#8, 0x52#8, 0x10#8, 0x00#8] = 0xBC#8 := by decide
  calc checksum (blockRequestHead o) = checksum [0x5A#8, 0x52#8, 0x10#8, 0x00#8] + checksum [o] :=
        checksum_append [0x5A#8, 0x52#8, 0x10#8, 0x00#8] [o]
    _ = 0xBC#8 + o := by rw [hfixed, checksum_cons, checksum_nil, BitVec.add_zero]

/-- Settles O40: the four fixed bytes sum to `0xBC`. -/
theorem blockRequestChecksum : Obligations.BlockRequestChecksum := by
  refine ⟨fun o => ?_, ?_⟩
  · rw [blockRequest, checksum_blockRequestHead]
    rfl
  · simp only [checksum_blockRequestHead]
    decide

/-- A received frame is accepted when it is 51 bytes and a byte that verifies against them. -/
theorem frameAccepted_append {bs : List Byte} (hlen : bs.length = 51) (e : Byte) :
    frameAccepted (bs ++ [e]) = verify bs e := by
  have htake : (bs ++ [e]).take 51 = bs := List.take_left' hlen
  simp [frameAccepted, Config.frameLen, Config.nData, hlen, htake]

/-- Settles O42: 52 bytes are 51 bytes and a last one. -/
theorem receivedMessagesAreCheckedByTheirLastByte : Obligations.ReceivedMessagesAreCheckedByTheirLastByte := by
  refine ⟨blockAccepted_append, fun payload => ?ownChecksum, fun t hlen => ?frame, fun t hlen => ?otherLength,
    fun F s P => ?builtFrame⟩
  case ownChecksum => rw [blockAccepted_append, verify_checksum]
  case frame =>
    obtain rfl | ⟨bs, e, rfl⟩ := t.eq_nil_or_concat'
    · cases hlen
    · have hbs : bs.length = 51 := by simpa using hlen
      have htake : (bs ++ [e]).take 51 = bs := List.take_left' hbs
      exact ⟨e, hbs ▸ List.getElem?_concat_length, by rw [frameAccepted_append hbs, htake]⟩
  case otherLength => simp [frameAccepted, Config.frameLen, hlen]
  case builtFrame => rw [frame, frameAccepted_append (data_length F s P), verify_checksum]

/-! ### The four operations of port C (R102 to R105) -/

/-- Settles O16. -/
theorem clearResult : Obligations.ClearResult :=
  ⟨fun d => decode_of_cOp_clr (cOp_serviceWord _ d), fun _ => rfl⟩

/-- Settles O17: the 8-bit sum is the sum of the numbers modulo 256. -/
theorem addResult : Obligations.AddResult := by
  refine ⟨fun d => ?_, fun d s => ⟨s.acc + d, BitVec.toNat_add s.acc d, rfl⟩⟩
  obtain ⟨-, hadd, -, -⟩ := everyServiceWordIsLegal d
  exact hadd

/-- Settles O18. -/
theorem readResult : Obligations.ReadResult :=
  ⟨fun d => decode_of_cOp_rd (cOp_serviceWord _ d), fun _ => rfl⟩

/-- Settles O19: what `CS.VFY` presents on `c_match` is the test of `ACC` against its byte. -/
theorem verifyResult : Obligations.VerifyResult := by
  refine ⟨fun e => ?_, fun e s => ⟨s.acc == e, beq_iff_eq, rfl⟩⟩
  obtain ⟨-, -, -, hvfy⟩ := everyServiceWordIsLegal e
  exact hvfy

/-! ### What an event does to ACC and to the agenda -/

/-- `ACC` after an operation: only `CS.CLR` and `CS.ADD` write it (10_state.md R31). -/
def instrAcc (acc : Byte) : Instr → Byte
  | .csClr => 0x00#8
  | .csAdd d => acc + d
  | .csRd | .csVfy _ | .probeReady | .requestTelemetry | .probeAlt | .lUnrec _ | .txEmit => acc

/-- `ACC` after an event that is enabled. -/
def eventAcc (acc : Byte) : Event → Byte
  | .op p => instrAcc acc (decode p)
  | .drive _ => acc
  | .rst => 0x00#8

theorem instrAcc_of_not_service {i : Instr} (h : i.format ≠ .c) (acc : Byte) : instrAcc acc i = acc := by
  cases i with
  | csClr | csAdd d | csRd | csVfy e => exact absurd rfl h
  | probeReady | requestTelemetry | probeAlt | lUnrec w | txEmit => rfl

theorem exec_acc {i : Instr} {s t : State} (h : exec i s = .next t) : t.acc = instrAcc s.acc i := by
  by_cases hport : i.format = .c
  · cases i with
    | csClr | csAdd d | csRd | csVfy e => cases h; rfl
    | probeReady | requestTelemetry | probeAlt | lUnrec w | txEmit => cases hport
  · obtain ⟨f, hf, hmeaning⟩ := exec_meaning i
    obtain rfl : f s = t := by simpa [hmeaning] using h
    rw [hf.keeps_acc hport, instrAcc_of_not_service hport]

/-- An event of port L or T does not move `ACC`. -/
theorem eventAcc_of_not_service {p : PortWord} (h : p.format ≠ .c) (acc : Byte) : eventAcc acc (.op p) = acc :=
  instrAcc_of_not_service (decode_format p ▸ h) acc

/-- An event that waits is one of port L or T. -/
theorem eventAcc_of_disabled {s : State} {e : Event} (h : s.enables e = false) (acc : Byte) : eventAcc acc e = acc := by
  cases e with
  | op p =>
    refine eventAcc_of_not_service (fun hport => ?_) acc
    cases p with
    | c w => cases h
    | l w | t => cases hport
  | drive v => rfl
  | rst => cases h

/-- What an enabled port word says of `RK`, by its port (42_command_decode.md R170, R176). -/
theorem rk_of_enables {s : State} {p : PortWord} (h : s.enables (.op p) = true) :
    (p.format = .l → s.rk = .none) ∧ (p.format = .t → s.rk ≠ .none) := by
  cases p with
  | c w => exact ⟨nofun, nofun⟩
  | l w => exact ⟨fun _ => (lReady_iff s).mp h, nofun⟩
  | t => exact ⟨nofun, fun _ => (tBusy_iff s).mp h⟩

@[simp] theorem emit_agenda (s : State) : s.emit.agenda = s.agenda := by
  obtain ⟨-, heq⟩ | ⟨-, heq⟩ := emit_cases s <;> rw [heq]

theorem Meaning.keeps_agenda {p : Format} {f : State → State} (hf : Meaning p f) {s : State}
    (hlink : p = .l → s.rk = .none) (htake : p = .t → s.rk ≠ .none) : (f s).agenda = s.agenda := by
  cases hf with
  | service v m => rfl
  | probe w k hk => simp [whenIdle_of_idle (hlink rfl)]
  | request w => simp [whenIdle_of_idle (hlink rfl)]
  | ignore w => simp [whenIdle_of_idle (hlink rfl)]
  | take => simp [State.whenBusy, State.tBusy, htake rfl]

/-- An event that is enabled completes, moves `ACC` as stated, and puts nothing back on the agenda. -/
theorem perform_acc_agenda {s : State} {e : Event} (he : s.enables e = true) :
    ∃ t, perform e s = .next t ∧ t.acc = eventAcc s.acc e ∧ t.agenda = s.agenda := by
  cases e with
  | op p =>
    obtain ⟨f, hf, hmeaning⟩ := exec_decode_meaning p
    obtain ⟨hlink, htake⟩ := rk_of_enables he
    exact ⟨f s, hmeaning s, exec_acc (hmeaning s), hf.keeps_agenda hlink htake⟩
  | drive v => exact ⟨_, rfl, rfl, rfl⟩
  | rst => exact ⟨_, rfl, rfl, rfl⟩

/-! ### The run of an agenda (R106)

The value of `ACC` that the agenda leads to is settled: no step changes it, as the events that wait do not move `ACC`. A run
as long as the agenda gets there, and leaves nothing that is enabled. -/

/-- `ACC` once every event of the agenda has been performed. -/
def agendaAcc (s : State) : Byte := s.agenda.foldl eventAcc s.acc

/-- Events that all wait lead `ACC` nowhere. -/
theorem foldl_eventAcc_of_disabled {s : State} {es : List Event} (h : ∀ e ∈ es, s.enables e = false) (acc : Byte) :
    es.foldl eventAcc acc = acc := by
  induction es with
  | nil => rfl
  | cons e es ih =>
    obtain ⟨he, hes⟩ := List.forall_mem_cons.mp h
    rw [List.foldl_cons, eventAcc_of_disabled he, ih hes]

/-- A step with an event enabled takes one event off the agenda, and leaves what the agenda leads to. -/
theorem step_of_enabled {s : State} {e : Event} {rest : List Event} (h : s.nextEvent s.agenda = some (e, rest)) :
    ∃ t, step s = .next t ∧ agendaAcc t = agendaAcc s ∧ t.agenda.length + 1 = s.agenda.length := by
  obtain ⟨pre, post, hagenda, rfl, he, hpre⟩ := nextEvent_some h
  obtain ⟨t, hperform, hacc, hrest⟩ := perform_acc_agenda (s := { s with agenda := pre ++ post }) he
  refine ⟨t, (step_of_nextEvent_some h).trans hperform, ?_, ?_⟩
  · calc agendaAcc t = post.foldl eventAcc (pre.foldl eventAcc (eventAcc s.acc e)) := by
          rw [agendaAcc, hacc, hrest, List.foldl_append]
      _ = post.foldl eventAcc (eventAcc (pre.foldl eventAcc s.acc) e) := by
          rw [foldl_eventAcc_of_disabled hpre, foldl_eventAcc_of_disabled hpre]
      _ = agendaAcc s := by rw [agendaAcc, hagenda, List.foldl_append, List.foldl_cons]
  · rw [hrest, hagenda]
    simp [Nat.add_assoc]

/-- A run as long as the agenda, or any run from where nothing is enabled, ends where nothing is enabled. -/
theorem run_exhausts (n : Nat) (s : State) (h : s.nextEvent s.agenda = none ∨ s.agenda.length ≤ n) :
    ∃ t, Host.Core.run core n s = .next t ∧ agendaAcc t = agendaAcc s ∧ ∀ e ∈ t.agenda, t.enables e = false := by
  induction n generalizing s with
  | zero =>
    have hnone : s.nextEvent s.agenda = none := h.elim id fun hlen => by
      rw [List.eq_nil_of_length_eq_zero (Nat.le_zero.mp hlen), nextEvent_nil]
    exact ⟨s, rfl, rfl, nextEvent_none hnone⟩
  | succ n ih =>
    cases hnext : s.nextEvent s.agenda with
    | none =>
      rw [run_succ (step_of_nextEvent_none hnext)]
      exact ih s.quiet (.inl ((nextEvent_congr s.quiet s rfl _).trans hnext))
    | some x =>
      obtain ⟨t, hstep, hacc, hlen⟩ := step_of_enabled hnext
      have hle : s.agenda.length ≤ n + 1 := h.resolve_left (by simp [hnext])
      obtain ⟨u, hrun, hacc', hdone⟩ := ih t (.inr (by omega))
      exact ⟨u, (run_succ hstep n).trans hrun, hacc'.trans hacc, hdone⟩

/-- Where nothing is enabled no operation of port C is left. -/
theorem filterMap_serviceInstr_of_disabled {s : State} {es : List Event} (h : ∀ e ∈ es, s.enables e = false) :
    es.filterMap serviceInstr = [] := by
  refine List.filterMap_eq_nil_iff.mpr fun e he => ?_
  have hwaits := h e he
  cases e with
  | op p =>
    cases p with
    | c w => cases hwaits
    | l w | t => rfl
  | drive v | rst => rfl

/-- Without a reset only the operations of port C move `ACC`. -/
theorem foldl_eventAcc_eq_service {es : List Event} (h : ∀ e ∈ es, e ≠ .rst) (acc : Byte) :
    es.foldl eventAcc acc = (es.filterMap serviceInstr).foldl instrAcc acc := by
  induction es generalizing acc with
  | nil => rfl
  | cons e es ih =>
    obtain ⟨he, hes⟩ := List.forall_mem_cons.mp h
    rw [List.foldl_cons, ih hes]
    cases e with
    | op p =>
      cases p with
      | c w => rfl
      | l w =>
        rw [eventAcc_of_not_service (p := .l w) nofun]
        rfl
      | t => rfl
    | drive v => rfl
    | rst => exact absurd rfl he

/-- Bytes fed by `CS.ADD` add their checksum to `ACC`. -/
theorem foldl_instrAcc_csAdd (bs : List Byte) (acc : Byte) :
    (bs.map Instr.csAdd).foldl instrAcc acc = acc + checksum bs :=
  List.foldl_map.trans (foldl_add_eq_add_checksum acc bs)

/-- A run as long as an agenda without reset performs its port-C operations, in their order. -/
theorem run_performs_services (s : State) (h : ∀ e ∈ s.agenda, e ≠ .rst) :
    ∃ t, Host.Core.run core s.agenda.length s = .next t ∧
      t.acc = (s.agenda.filterMap serviceInstr).foldl instrAcc s.acc ∧ t.agenda.filterMap serviceInstr = [] := by
  obtain ⟨t, hrun, hacc, hdone⟩ := run_exhausts s.agenda.length s (.inr le_rfl)
  refine ⟨t, hrun, ?_, filterMap_serviceInstr_of_disabled hdone⟩
  calc t.acc = agendaAcc t := (foldl_eventAcc_of_disabled hdone t.acc).symm
    _ = agendaAcc s := hacc
    _ = (s.agenda.filterMap serviceInstr).foldl instrAcc s.acc := foldl_eventAcc_eq_service h s.acc

/-- Settles O38: the run performs the port-C operations, whatever events stand between them, and these add up. Some of the
steps may find nothing enabled (log entry 3); they change no register. -/
theorem streamedBytesAddUpInAcc : Obligations.StreamedBytesAddUpInAcc := by
  intro s bs hrst
  obtain ⟨t, hrun, hacc, hdone⟩ := run_performs_services s hrst
  refine ⟨fun hadds => ⟨t, hrun, ?_, hdone⟩, fun hclear => ⟨t, hrun, ?_, hdone⟩⟩
  · rw [hacc, hadds, foldl_instrAcc_csAdd]
  · rw [hacc, hclear, List.foldl_cons, foldl_instrAcc_csAdd]
    exact BitVec.zero_add _

end Sys2Proof.Machine
end

section
/-! ## The frame structurer (spec/41_frame_structurer.md)

The frame byte by byte through the layout of R137; then what a step does to the sample (R131) and the telemetry reply byte by
byte (R139). -/

namespace Sys2Proof.Machine

/-! ### Frame bytes by their source (R137, R138) -/

/-- A data byte of the frame is the value of the source that the layout has at its index. -/
theorem frame_getElem?_of_layout {i : Nat} {src : ByteSource} (h : layout[i]? = some src) (F : Vector Byte 14)
    (s : BitVec 1) (P : Vector Byte 10) : (frame F s P)[i]? = some (sourceValue F s P src) := by
  obtain ⟨hi, -⟩ := List.getElem?_eq_some_iff.mp h
  have hdata : i < (data F s P).length := by simpa [data] using hi
  rw [frame, List.getElem?_append_left hdata, data, List.getElem?_map, h, Option.map_some]

/-- The last byte of the frame is the checksum of the data bytes (R140). -/
theorem frame_getElem?_last (F : Vector Byte 14) (s : BitVec 1) (P : Vector Byte 10) :
    (frame F s P)[51]? = some (checksum (data F s P)) := by
  have hlen : 51 = (data F s P).length := (data_length F s P).symm
  rw [frame, hlen, List.getElem?_concat_length]

theorem frame_take_data (F : Vector Byte 14) (s : BitVec 1) (P : Vector Byte 10) :
    (frame F s P).take 51 = data F s P :=
  List.take_left' (data_length F s P)

/-- The pads stand at the end of the layout in the order of `PAD` (R136). -/
theorem map_sourceValue_pads (F : Vector Byte 14) (s : BitVec 1) (P : Vector Byte 10) :
    ((List.finRange 10).map ByteSource.pad).map (sourceValue F s P) = P.toList := by
  refine List.ext_getElem (by simp) fun i _ _ => ?_
  simp [sourceValue, Vector.get]

theorem map_sourceValue_fillers (F : Vector Byte 14) (s : BitVec 1) (P : Vector Byte 10) :
    (List.replicate Config.nFill .filler).map (sourceValue F s P) = List.replicate 20 0x02#8 :=
  List.map_replicate

/-- The data bytes by the three parts of the layout. -/
theorem data_eq_append (F : Vector Byte 14) (s : BitVec 1) (P : Vector Byte 10) :
    data F s P = namedLayout.map (sourceValue F s P) ++ List.replicate 20 0x02#8 ++ P.toList := by
  rw [data, layout, List.map_append, List.map_append, map_sourceValue_fillers, map_sourceValue_pads]

/-- Settles O44: evaluating the sources of the named part of the layout gives the 21 values that R138 writes. -/
theorem frameDataWrittenOut : Obligations.FrameDataWrittenOut := fun F s P => data_eq_append F s P

/-! ### The derived fields (R132, R133, R134) -/

theorem derivedValue_le (d : DerivedField) (s : BitVec 1) : (derivedValue d s).toNat ≤ 116 := by
  obtain rfl | rfl := s.eq_zero_or_eq_one <;> cases d <;> decide

/-- Settles O43, for each of the two roots. -/
theorem derivedFieldRelations : Obligations.DerivedFieldRelations := by
  intro s
  obtain rfl | rfl := s.eq_zero_or_eq_one
  · exact ⟨rfl, rfl, rfl, rfl, rfl, rfl, rfl, fun d => derivedValue_le d 0#1⟩
  · exact ⟨rfl, rfl, rfl, rfl, rfl, rfl, rfl, fun d => derivedValue_le d 1#1⟩

/-! ### Every frame (R142, R143) -/

theorem layout_filler {i : Nat} (hlo : 21 ≤ i) (hhi : i ≤ 40) : layout[i]? = some .filler := by
  have hnamed : namedLayout.length = 21 := rfl
  have hfill : i - 21 < Config.nFill := by simp only [Config.nFill]; omega
  rw [layout, List.append_assoc, List.getElem?_append_right (hnamed ▸ hlo), hnamed,
    List.getElem?_append_left (by simpa using hfill), List.getElem?_replicate_of_lt hfill]

/-- The derived fields, in the order of their indexes 3, 5, 6, 9, 15, 16, 17 in the frame (R137). -/
def derivedFields : List DerivedField :=
  [.massAirFlow, .rpmGraph, .rpmBar, .vacuum, .injectorActive, .injectorDuty, .ignitionDegrees]

theorem frame_derivedFields (F : Vector Byte 14) (s : BitVec 1) (P : Vector Byte 10) :
    ([3, 5, 6, 9, 15, 16, 17].map fun i => (frame F s P)[i]?) = derivedFields.map fun d => some (derivedValue d s) := rfl

/-- Settles O45: the layout fixes the fillers, and the select the group of derived bytes. -/
theorem everyFrameIsConsistent : Obligations.EveryFrameIsConsistent := by
  rintro F s P _ rfl
  refine ⟨frame_length F s P, ?last, fun i hlo hhi => frame_getElem?_of_layout (layout_filler hlo hhi) F s P, ?derived⟩
  case last => rw [frame_take_data, frame_getElem?_last]
  case derived =>
    rw [frame_derivedFields]
    obtain rfl | rfl := s.eq_zero_or_eq_one <;> rfl

/-! ### The closed form of the checksum byte (R140) -/

/-- The independent fields, in the order of `FLD` (10_state.md R23). -/
def indepFields : List IndepField :=
  [.coolantTemp, .intakeAirTemp, .airFuelRatio, .throttlePosition, .fuelCutFlag, .rpmValue, .o2SensorFlag,
   .camSensorFlag, .faultCode0, .faultCode1, .vehicleSpeed, .fuelPressureFlag, .milFlag, .ftlFlag]

/-- Every named field stands in the frame exactly once. -/
theorem namedLayout_perm : namedLayout.Perm (indepFields.map .indep ++ derivedFields.map .derived) := by decide

theorem map_sourceValue_indepFields (F : Vector Byte 14) (s : BitVec 1) (P : Vector Byte 10) :
    (indepFields.map .indep).map (sourceValue F s P) = F.toList := by
  have horder : indepFields.map indepIndex = List.finRange 14 := by decide
  calc (indepFields.map .indep).map (sourceValue F s P) = (indepFields.map indepIndex).map F.get := rfl
    _ = F.toList := by
        rw [horder]
        exact List.ext_getElem (by simp) fun i _ _ => by simp [Vector.get]

theorem sum_derivedFields (s : BitVec 1) :
    (derivedFields.map fun d => (derivedValue d s).toNat).sum = 126 + 18 * s.toNat := by
  obtain rfl | rfl := s.eq_zero_or_eq_one <;> rfl

/-- The sum of the data bytes as numbers, by the sources of the layout. -/
theorem sum_data (F : Vector Byte 14) (s : BitVec 1) (P : Vector Byte 10) :
    ((data F s P).map BitVec.toNat).sum =
      (F.toList.map BitVec.toNat).sum + 126 + 18 * s.toNat + 40 + (P.toList.map BitVec.toNat).sum := by
  have hnamed : ((namedLayout.map (sourceValue F s P)).map BitVec.toNat).sum =
      (F.toList.map BitVec.toNat).sum + (126 + 18 * s.toNat) := by
    rw [((namedLayout_perm.map _).map _).sum_eq, List.map_append, map_sourceValue_indepFields, List.map_append,
      List.sum_append, ← sum_derivedFields]
    rfl
  rw [data_eq_append, List.map_append, List.map_append, List.sum_append, List.sum_append, hnamed, List.map_replicate]
  simp [Nat.add_assoc]

/-- Settles O46: each source adds its share to the sum of the data bytes. -/
theorem frameChecksumClosedForm : Obligations.FrameChecksumClosedForm := fun F s P =>
  ⟨_, frame_getElem?_last F s P, by rw [checksum_toNat, sum_data]⟩

/-! ### The sample (R131) -/

@[simp] theorem emit_fld (s : State) : s.emit.fld = s.fld := by
  obtain ⟨-, heq⟩ | ⟨-, heq⟩ := emit_cases s <;> rw [heq]

@[simp] theorem emit_sel (s : State) : s.emit.sel = s.sel := by
  obtain ⟨-, heq⟩ | ⟨-, heq⟩ := emit_cases s <;> rw [heq]

/-- Two states hold the same sample of port F. -/
def State.SameSample (s t : State) : Prop := t.fld = s.fld ∧ t.sel = s.sel

/-- An operation is an accepted request, or it keeps the sample. -/
theorem exec_request_or_sameSample {i : Instr} {s t : State} (h : exec i s = .next t) :
    (i = .requestTelemetry ∧ s.rk = .none) ∨ s.SameSample t := by
  cases i with
  | csClr | csAdd d | csRd | csVfy e => cases h; exact .inr ⟨rfl, rfl⟩
  | probeReady | probeAlt | lUnrec w =>
    cases h
    exact .inr (whenIdle_ind (P := s.SameSample) (fun _ => ⟨rfl, rfl⟩) ⟨rfl, rfl⟩)
  | requestTelemetry =>
    cases h
    exact whenIdle_ind (P := fun t => (_ ∧ s.rk = .none) ∨ s.SameSample t)
      (fun hidle => .inl ⟨rfl, hidle⟩) (.inr ⟨rfl, rfl⟩)
  | txEmit =>
    cases h
    exact .inr (whenBusy_ind (P := s.SameSample) (fun _ => ⟨emit_fld s, emit_sel s⟩) ⟨rfl, rfl⟩)

/-- An accepted request begins a telemetry reply and takes the sample. -/
theorem exec_requestTelemetry_of_idle {s : State} (h : s.rk = .none) :
    exec .requestTelemetry s = .next (s.beginReply .telem).sampleFields.quiet :=
  congrArg Host.Outcome.next (whenIdle_of_idle h _ _)

/-- Settles O28. -/
theorem fieldsAreSampledByRequestOnly : Obligations.FieldsAreSampledByRequestOnly := by
  refine ⟨fun s hidle => ⟨_, exec_requestTelemetry_of_idle hidle, fun k => ?_, rfl, rfl⟩, fun i s t hexec hchange => ?_⟩
  · rw [quiet_fld, sampleFields_fld, beginReply_portF]
  · refine (exec_request_or_sameSample hexec).resolve_right fun ⟨hfld, hsel⟩ => ?_
    exact hchange.elim (· hfld) (· hsel)

/-! ### The telemetry reply, byte by byte (R139) -/

theorem whenBusy_of_busy {s : State} (h : s.rk ≠ .none) (k : State → State) : s.whenBusy k = k s := by
  simp [State.whenBusy, h]

theorem exec_txEmit_of_busy {s : State} (h : s.rk ≠ .none) : exec .txEmit s = .next s.emit :=
  congrArg Host.Outcome.next (whenBusy_of_busy h State.emit)

/-- In a telemetry reply at `IDX <= 50` the data byte leaves and is added to `FACC`. -/
theorem emit_telem_data {s : State} (hrk : s.rk = .telem) (hidx : s.idx.toNat ≤ 50) :
    s.emit = { s with
      idx := s.idx + 1#6
      facc := s.facc + dataByte s.fld s.sel s.cfg.pad s.idx.toNat
      out := ⟨none, none, some (dataByte s.fld s.sel s.cfg.pad s.idx.toNat), some false⟩ } := by
  have hnotLast : s.lastByte = false := by
    simp only [State.lastByte, hrk, replyLength, Config.frameLen, beq_eq_false_iff_ne]
    omega
  obtain ⟨hlast, -⟩ | ⟨-, heq⟩ := emit_cases s
  · simp [hnotLast] at hlast
  · rw [heq]
    simp [nextFacc, replyByte, telemByte, hrk, hidx]

/-- In a telemetry reply at `IDX = 51` the accumulator itself leaves, and the block is idle. -/
theorem emit_telem_checksum {s : State} (hrk : s.rk = .telem) (hidx : s.idx = 51#6) :
    s.emit = { s with rk := .none, idx := 0#6, out := ⟨none, none, some s.facc, some true⟩ } := by
  have hisLast : s.lastByte = true := by simp [State.lastByte, hrk, hidx, replyLength, Config.frameLen]
  obtain ⟨-, heq⟩ | ⟨hlast, -⟩ := emit_cases s
  · rw [heq]
    simp [nextFacc, replyByte, telemByte, hrk, hidx]
  · simp [hisLast] at hlast

/-- Settles O24. -/
theorem emitTelemetryByte : Obligations.EmitTelemetryByte := by
  intro s hrk
  have hexec : exec .txEmit s = .next s.emit := exec_txEmit_of_busy (by simp [hrk])
  refine ⟨fun hidx => ⟨_, _, dataByte_eq _ _ _ _ hidx, BitVec.toNat_add _ _, ?_⟩, fun hidx => ?_⟩
  · rw [hexec, emit_telem_data hrk hidx]
  · rw [hexec, emit_telem_checksum hrk hidx]

end Sys2Proof.Machine
end

section
/-! ## The command decoder (spec/42_command_decode.md)

What one event of ports L and T does. Then the bytes that a reply still owes: a taken byte is the first of them, and the
other events beside a reply leave them. The theorems about whole replies follow from these laws by induction on what is owed
or on the events. -/

namespace Sys2Proof.Machine

/-! ### Events that wait (R170, R176) -/

theorem whenBusy_of_idle {s : State} (h : s.rk = .none) (k : State → State) : s.whenBusy k = s.hold .t := by
  simp [State.whenBusy, State.tBusy, h]

/-- Settles O23: every port-L operation and `TX.EMIT` is guarded, and the guard holds the word that encodes the operation. -/
theorem eventThatIsNotEnabledIsHeld : Obligations.EventThatIsNotEnabledIsHeld := by
  refine ⟨fun i s _ hlink hbusy => ?_, fun s hidle => congrArg Host.Outcome.next (whenBusy_of_idle hidle State.emit)⟩
  cases i with
  | csClr | csAdd d | csRd | csVfy e | txEmit => cases hlink
  | probeReady | requestTelemetry | probeAlt | lUnrec w =>
    exact congrArg Host.Outcome.next (whenIdle_of_busy hbusy _ _)

/-! ### The last byte of a reply, and any other (R176) -/

theorem lastByte_iff (s : State) : s.lastByte = true ↔ s.idx.toNat + 1 = replyLength s.rk := by
  simp [State.lastByte]

theorem emit_of_lastByte {s : State} (h : s.lastByte = true) :
    s.emit = { s with
      rk := .none, idx := 0#6, facc := nextFacc s, out := ⟨none, none, some (replyByte s), some true⟩ } := by
  obtain ⟨-, heq⟩ | ⟨hlast, -⟩ := emit_cases s
  · exact heq
  · simp [h] at hlast

theorem emit_of_not_lastByte {s : State} (h : s.lastByte = false) :
    s.emit = { s with
      idx := s.idx + 1#6, facc := nextFacc s, out := ⟨none, none, some (replyByte s), some false⟩ } := by
  obtain ⟨hlast, -⟩ | ⟨-, heq⟩ := emit_cases s
  · simp [h] at hlast
  · exact heq

/-! ### Commands on an idle block (R171 to R173) -/

theorem exec_probeReady_of_idle {s : State} (h : s.rk = .none) :
    exec .probeReady s = .next (s.beginReply .ready).quiet :=
  congrArg Host.Outcome.next (whenIdle_of_idle h _ _)

theorem exec_probeAlt_of_idle {s : State} (h : s.rk = .none) :
    exec .probeAlt s = .next (s.beginReply .alt).quiet :=
  congrArg Host.Outcome.next (whenIdle_of_idle h _ _)

theorem sampleFields_eq (s : State) :
    s.sampleFields = { s with fld := s.portF.fIn, sel := s.portF.fSel, facc := 0x00#8 } :=
  congrArg (fun F => ({ s with fld := F, sel := s.portF.fSel, facc := 0x00#8 } : State)) (sampleFields_fld s)

/-- The byte of a one-byte reply is its last, and `FACC` is not touched (R175, R176). -/
theorem exec_txEmit_oneByteReply {s : State} (hrk : s.rk = .ready ∨ s.rk = .alt) (hidx : s.idx = 0#6) :
    exec .txEmit s =
      .next { s with rk := .none, idx := 0#6, out := ⟨none, none, some (replyByte s), some true⟩ } := by
  have hbusy : s.rk ≠ .none := by rcases hrk with hrk | hrk <;> simp [hrk]
  have htelem : s.rk ≠ .telem := by rcases hrk with hrk | hrk <;> simp [hrk]
  have hisLast : s.lastByte = true := by rcases hrk with hrk | hrk <;> simp [State.lastByte, hrk, hidx, replyLength]
  rw [exec_txEmit_of_busy hbusy, emit_of_lastByte hisLast, nextFacc_of_not_telem htelem]

/-- Settles O20. -/
theorem probeReadyResult : Obligations.ProbeReadyResult :=
  ⟨rfl, fun _ hidle => ⟨exec_probeReady_of_idle hidle, exec_txEmit_oneByteReply (.inl rfl) rfl⟩⟩

/-- Settles O21. -/
theorem probeAltResult : Obligations.ProbeAltResult :=
  ⟨rfl, fun _ hidle => ⟨exec_probeAlt_of_idle hidle, exec_txEmit_oneByteReply (.inr rfl) rfl⟩⟩

/-- Settles O22: the sample is the whole of port F. -/
theorem requestTelemetryResult : Obligations.RequestTelemetryResult := by
  refine ⟨rfl, fun s hidle => ?_⟩
  rw [exec_requestTelemetry_of_idle hidle, sampleFields_eq]
  rfl

/-! ### One byte of a reply (R175, R176) -/

@[simp] theorem emit_out (s : State) : s.emit.out = ⟨none, none, some (replyByte s), some s.lastByte⟩ := rfl

/-- A taken byte moves `RK`, `IDX`, `FACC` and the outputs, and nothing else. -/
theorem emit_frame (s : State) : s.emit = { s with
    rk := s.emit.rk, idx := s.emit.idx, facc := s.emit.facc
    out := ⟨none, none, some (replyByte s), some s.lastByte⟩ } := by
  obtain ⟨hlast, heq⟩ | ⟨hlast, heq⟩ := emit_cases s <;> rw [heq, hlast]

@[simp] theorem emit_facc (s : State) : s.emit.facc = nextFacc s := by
  obtain ⟨-, heq⟩ | ⟨-, heq⟩ := emit_cases s <;> rw [heq]

/-- Settles O25: the byte and `FACC` by the reply kind, the sequencing by the last-byte mark. -/
theorem emitResult : Obligations.EmitResult := by
  refine ⟨⟨rfl, rfl, rfl, rfl⟩, fun s hbusy => ⟨s.emit, replyByte s, s.lastByte, exec_txEmit_of_busy hbusy,
    emit_frame s, fun hrk hidx => ?ready, fun hrk hidx => ?alt, fun hrk hidx => ?dataByte, fun hrk hidx => ?checksum,
    fun hrk => (emit_facc s).trans (nextFacc_of_not_telem hrk), lastByte_iff s, fun hlast => ?last,
    fun hlast => ?notLast⟩, tBusy_iff⟩
  case ready => simp [replyByte, hrk, hidx, Config.replyReady]
  case alt => simp [replyByte, hrk, hidx, Config.replyAlt]
  case dataByte => simp [replyByte, nextFacc, telemByte, hrk, hidx, dataByte_eq]
  case checksum => simp [replyByte, nextFacc, telemByte, hrk, hidx]
  case last => simp [emit_of_lastByte hlast]
  case notLast => simp [emit_of_not_lastByte hlast]

/-! ### Control flow of replies (R178) -/

/-- Settles O30: the three commands leave the idle state through their own action, `TX.EMIT` returns to it with the last
byte, and every other outcome, each wait among them, keeps `RK`. -/
theorem controlFlowOfReplies : Obligations.ControlFlowOfReplies := by
  intro i s t hexec hrk
  cases i with
  | csClr | csAdd d | csRd | csVfy e => cases hexec; exact absurd rfl hrk
  | probeReady | requestTelemetry | probeAlt =>
    cases hexec
    obtain ⟨hidle, heq⟩ | ⟨-, heq⟩ := whenIdle_cases s _ _ <;> rw [heq] at hrk ⊢
    · exact .inl ⟨hidle, rfl, by simp⟩
    · exact absurd rfl hrk
  | lUnrec w =>
    cases hexec
    obtain ⟨-, heq⟩ | ⟨-, heq⟩ := whenIdle_cases s _ _ <;> exact absurd (congrArg State.rk heq) hrk
  | txEmit =>
    cases hexec
    obtain ⟨hbusy, heq⟩ | ⟨-, heq⟩ := whenBusy_cases s State.emit <;> rw [heq] at hrk ⊢
    · obtain ⟨hlast, hemit⟩ | ⟨-, hemit⟩ := emit_cases s <;> rw [hemit] at hrk ⊢
      · exact .inr ⟨hbusy, rfl, (lastByte_iff s).mp hlast, rfl, rfl⟩
      · exact absurd rfl hrk
    · exact absurd rfl hrk

/-! ### What a reply still owes (R175, R177) -/

/-- All bytes of the reply that the block is in: `rbyte(RK, 0)` to `rbyte(RK, RLEN(RK) - 1)` (R175). -/
def State.wholeReply (s : State) : List Byte :=
  match s.rk with
  | .none => []
  | .ready => [Config.replyReady]
  | .telem => frame s.fld s.sel s.cfg.pad
  | .alt => [Config.replyAlt]

/-- The block meets the invariant, and the bytes of its reply from `IDX` on are `r`. -/
def State.Owes (s : State) (r : List Byte) : Prop := s.Inv ∧ s.wholeReply.drop s.idx.toNat = r

theorem wholeReply_length (s : State) : s.wholeReply.length = replyLength s.rk := by
  cases h : s.rk <;> simp [State.wholeReply, h, replyLength, Config.frameLen]

theorem owes_length {s : State} {r : List Byte} (h : s.Owes r) : r.length = replyLength s.rk - s.idx.toNat := by
  rw [← h.2, List.length_drop, wholeReply_length]

/-- An idle block owes nothing. -/
theorem owes_nil_of_idle {s : State} (hrk : s.rk = .none) (hidx : s.idx = 0#6) : s.Owes [] :=
  ⟨inv_of_idle hrk hidx, by simp [State.wholeReply, hrk]⟩

/-- A busy block owes a byte: the invariant keeps `IDX` below the reply's length. -/
theorem idx_lt_replyLength {s : State} (hinv : s.Inv) (hbusy : s.rk ≠ .none) : s.idx.toNat < replyLength s.rk := by
  cases hlast : s.lastByte with
  | true => exact (lastByte_iff s).mp hlast ▸ Nat.lt_succ_self _
  | false =>
    obtain ⟨hrk, hidx⟩ := telem_of_not_lastByte hinv hbusy hlast
    simp only [hrk, replyLength, Config.frameLen]
    omega

theorem idle_of_owes_nil {s : State} (h : s.Owes []) : s.rk = .none ∧ s.idx = 0#6 := by
  obtain ⟨hinv, -⟩ := id h
  have hrk : s.rk = .none := by
    by_contra hbusy
    have hlt := idx_lt_replyLength hinv hbusy
    have hlen : 0 = replyLength s.rk - s.idx.toNat := owes_length h
    omega
  exact ⟨hrk, hinv.1 hrk⟩

theorem busy_of_owes_cons {s : State} {b : Byte} {r : List Byte} (h : s.Owes (b :: r)) : s.rk ≠ .none := by
  intro hidle
  have hlen := owes_length h
  simp [hidle, replyLength] at hlen

/-- The byte of the reply at `IDX` is `rbyte(RK, IDX)`; in a telemetry reply `FACC` has become the frame's last byte. -/
theorem wholeReply_getElem?_idx {s : State} (hinv : s.Inv) (hbusy : s.rk ≠ .none) :
    s.wholeReply[s.idx.toNat]? = some (replyByte s) := by
  obtain ⟨-, hone, htelem⟩ := hinv
  cases hrk : s.rk with
  | none => exact absurd hrk hbusy
  | ready => simp [State.wholeReply, replyByte, hrk, hone (.inl hrk)]
  | alt => simp [State.wholeReply, replyByte, hrk, hone (.inr hrk)]
  | telem =>
    obtain ⟨hle, hfacc⟩ := htelem hrk
    simp only [State.wholeReply, replyByte, hrk, telemByte]
    split_ifs with hdata
    · rw [frame, List.getElem?_append_left (by simp; omega), dataByte_eq _ _ _ _ hdata]
    · have hidx : s.idx.toNat = 51 := by omega
      rw [hfacc, hidx, frame_getElem?_last, Nat.min_self, List.take_of_length_le (by simp)]

/-- A taken byte is the first that is owed, marked when it is the only one, and the rest is owed after it. -/
theorem owes_emit {s : State} {b : Byte} {r : List Byte} (h : s.Owes (b :: r)) :
    s.emit.Owes r ∧ replyByte s = b ∧ s.lastByte = r.isEmpty := by
  have hbusy := busy_of_owes_cons h
  have hlen : r.length + 1 = replyLength s.rk - s.idx.toNat := owes_length h
  obtain ⟨hinv, hdrop⟩ := h
  have hbyte : replyByte s = b := by
    have hhead : (s.wholeReply.drop s.idx.toNat)[0]? = some b := by rw [hdrop]; rfl
    rw [List.getElem?_drop, Nat.add_zero, wholeReply_getElem?_idx hinv hbusy] at hhead
    exact Option.some.inj hhead
  have hrest : s.wholeReply.drop (s.idx.toNat + 1) = r := by
    rw [← List.tail_drop, hdrop, List.tail_cons]
  have hmark : s.lastByte = r.isEmpty := by
    rw [Bool.eq_iff_iff, lastByte_iff, List.isEmpty_iff_length_eq_zero]
    omega
  refine ⟨⟨emit_keeps_inv hinv hbusy, ?_⟩, hbyte, hmark⟩
  cases hlast : s.lastByte with
  | true =>
    have hnil : r = [] := List.isEmpty_iff.mp (hmark ▸ hlast)
    rw [emit_of_lastByte hlast, hnil]
    rfl
  | false =>
    obtain ⟨-, hidx⟩ := telem_of_not_lastByte hinv hbusy hlast
    have hsucc : (s.idx + 1#6).toNat = s.idx.toNat + 1 := by bv_omega
    rw [emit_of_not_lastByte hlast]
    simp only [hsucc]
    exact hrest

/-! ### The replies to a run of events (R177, R141) -/

/-- On an idle block a command word silently begins the reply of R177, whatever the word. -/
theorem exec_link_of_idle {s : State} (hrk : s.rk = .none) (hidx : s.idx = 0#6) (w : LinkWord) :
    ∃ t, exec (decode (.l w)) s = .next t ∧ t.Owes (reply w s.portF.fIn s.portF.fSel s.cfg.pad) ∧
      t.agenda = s.agenda ∧ t.out = Outputs.silent := by
  obtain rfl | rfl | rfl | hw := linkWord_cases w
  · exact ⟨_, exec_probeReady_of_idle hrk, ⟨inv_of_oneByteReply (.inl rfl) rfl, rfl⟩, rfl, rfl⟩
  · refine ⟨_, exec_requestTelemetry_of_idle hrk, ⟨inv_of_telemetry rfl (by simp) (by simp), ?_⟩, rfl, rfl⟩
    rw [sampleFields_eq]
    rfl
  · exact ⟨_, exec_probeAlt_of_idle hrk, ⟨inv_of_oneByteReply (.inr rfl) rfl, rfl⟩, rfl, rfl⟩
  · rw [decode_link_unrecognised hw]
    have hreply : reply w s.portF.fIn s.portF.fSel s.cfg.pad = [] := by simp [reply, hw]
    exact ⟨_, unrecognisedWordDoesNothing.2 w s hrk, hreply ▸ owes_nil_of_idle hrk hidx, rfl, rfl⟩

/-- Port-C operations and changes of port F leave what is owed, and present no reply byte. -/
theorem perform_beside {s : State} {r : List Byte} (h : s.Owes r) {e : Event} (he : besideReply e = true)
    (htake : e ≠ .op .t) :
    ∃ t, perform e s = .next t ∧ t.Owes r ∧ t.agenda = s.agenda ∧ t.out.tByte = none := by
  cases e with
  | op p =>
    cases p with
    | c w =>
      obtain ⟨f, hf, hmeaning⟩ := exec_decode_meaning (.c w)
      refine ⟨f s, hmeaning s, ?_⟩
      cases hf with
      | service v m => exact ⟨h, rfl, rfl⟩
    | l w => cases he
    | t => exact absurd rfl htake
  | drive v => exact ⟨_, rfl, h, rfl, rfl⟩
  | rst => cases he

/-- Beside a reply every event but a take is enabled in every state. -/
theorem enables_beside (s : State) {e : Event} (he : besideReply e = true) (htake : e ≠ .op .t) :
    s.enables e = true := by
  cases e with
  | op p =>
    cases p with
    | c w => rfl
    | l w => cases he
    | t => exact absurd rfl htake
  | drive v | rst => rfl

/-- A step without a reply byte adds nothing to the bytes taken. -/
theorem bytesTaken_succ_of_none {s t : State} (hstep : step s = .next t) (hout : t.out.tByte = none) (k : Nat) :
    bytesTaken (k + 1) s = bytesTaken k t := by
  simp [bytesTaken, observe_succ hstep, Observed.taken, hout]

theorem bytesTaken_succ_of_emit {s t : State} (hstep : step s = .next t.emit) (k : Nat) :
    bytesTaken (k + 1) s = (replyByte t, t.lastByte) :: bytesTaken k t.emit := by
  simp [bytesTaken, observe_succ hstep, Observed.taken]

theorem markLast_cons (b : Byte) (bs : List Byte) : markLast (b :: bs) = (b, bs.isEmpty) :: markLast bs := by
  cases bs <;> rfl

/-- On a busy block the first take is performed; the events before it are held in their places. -/
theorem step_take {s : State} {pre es : List Event} (hbusy : s.rk ≠ .none) (hagenda : s.agenda = pre ++ .op .t :: es)
    (hpre : ∀ e ∈ pre, s.enables e = false) : step s = .next { s with agenda := pre ++ es }.emit :=
  (stepPerformsTheFirstEnabledEvent s pre es (.op .t) hagenda hpre ((tBusy_iff s).mpr hbusy)).trans
    (exec_txEmit_of_busy hbusy)

/-- A step whose event is a take takes the first byte that is owed. -/
theorem step_take_owed {s : State} {b : Byte} {r : List Byte} {es : List Event} (h : s.Owes (b :: r))
    (hagenda : s.agenda = .op .t :: es) :
    ∃ t, step s = .next t ∧ t.Owes r ∧ t.agenda = es ∧
      ∀ k, bytesTaken (k + 1) s = (b, r.isEmpty) :: bytesTaken k t := by
  have hstep := step_take (pre := []) (busy_of_owes_cons h) hagenda nofun
  obtain ⟨hrest, hbyte, hmark⟩ := owes_emit (s := { s with agenda := es }) h
  exact ⟨_, hstep, hrest, emit_agenda _, fun k => hbyte ▸ hmark ▸ bytesTaken_succ_of_emit hstep k⟩

/-- A step whose event is another one beside a reply takes no byte and leaves what is owed. -/
theorem step_beside {s : State} {r : List Byte} {e : Event} {es : List Event} (h : s.Owes r)
    (hagenda : s.agenda = e :: es) (he : besideReply e = true) (htake : e ≠ .op .t) :
    ∃ t, step s = .next t ∧ t.Owes r ∧ t.agenda = es ∧ ∀ k, bytesTaken (k + 1) s = bytesTaken k t := by
  obtain ⟨t, hperform, howes, hrest, hout⟩ := perform_beside (s := { s with agenda := es }) h he htake
  have hstep : step s = .next t := (step_head_enabled hagenda (enables_beside s he htake)).trans hperform
  exact ⟨t, hstep, howes, hrest, bytesTaken_succ_of_none hstep hout⟩

/-- As many byte takes as bytes are owed, with other events between, take exactly these bytes. -/
theorem run_takes_owed (es : List Event) (s : State) (r : List Byte) (h : s.Owes r) (hagenda : s.agenda = es)
    (hbeside : ∀ e ∈ es, besideReply e = true) (hcount : es.count (.op .t) = r.length) :
    bytesTaken es.length s = markLast r ∧
      ∃ t, Host.Core.run core es.length s = .next t ∧ t.Owes [] ∧ t.agenda = [] := by
  induction es generalizing s r with
  | nil =>
    obtain rfl : r = [] := List.eq_nil_of_length_eq_zero hcount.symm
    exact ⟨rfl, s, rfl, h, hagenda⟩
  | cons e es ih =>
    obtain ⟨he, hes⟩ := List.forall_mem_cons.mp hbeside
    by_cases htake : e = .op .t
    · rw [htake] at hagenda
      rw [htake, List.count_cons_self] at hcount
      cases r with
      | nil => cases hcount
      | cons b r =>
        obtain ⟨t, hstep, hrest, hagenda', htaken⟩ := step_take_owed h hagenda
        obtain ⟨hbytes, hrun⟩ := ih t r hrest hagenda' hes (Nat.succ.inj hcount)
        refine ⟨?_, by rwa [List.length_cons, run_succ hstep]⟩
        rw [List.length_cons, htaken, hbytes, markLast_cons]
    · rw [List.count_cons_of_ne htake] at hcount
      obtain ⟨t, hstep, howes, hagenda', htaken⟩ := step_beside h hagenda he htake
      obtain ⟨hbytes, hrun⟩ := ih t r howes hagenda' hes hcount
      refine ⟨?_, by rwa [List.length_cons, run_succ hstep]⟩
      rw [List.length_cons, htaken, hbytes]

/-- Settles O47: the command word makes the block owe its reply, and the takes take what is owed. -/
theorem replyToEveryCommandWord : Obligations.ReplyToEveryCommandWord := by
  rintro s w es _ hrk hidx hagenda rfl hes hcount
  obtain ⟨t, hexec, howes, hrest, hout⟩ := exec_link_of_idle (s := { s with agenda := es }) hrk hidx w
  have hstep : step s = .next t := (step_head_enabled hagenda ((lReady_iff s).mpr hrk)).trans hexec
  obtain ⟨hbytes, u, hrun, hdone, hempty⟩ := run_takes_owed es t _ howes hrest hes hcount
  obtain ⟨hidle, hzero⟩ := idle_of_owes_nil hdone
  refine ⟨?bytes, u, (run_succ hstep _).trans hrun, ?complete, hempty, ?noTake⟩
  case bytes => rw [bytesTaken_succ_of_none hstep (congrArg Outputs.tByte hout), hbytes]
  case complete => simp [State.complete, State.lReady, hidle, hzero]
  case noTake => simp [State.enables, State.tBusy, hidle]

/-! ### The busy hold (R170, R179) -/

theorem link_disabled_of_busy {s : State} (h : s.rk ≠ .none) (w : LinkWord) : s.enables (.op (.l w)) = false := by
  simpa [State.enables, State.lReady] using h

/-- With a command held in front of as many takes as bytes are owed, each take but the last leaves the block busy with the
same reply, and the last leaves it owing nothing; the command stays throughout. -/
theorem run_takes_behind_command (w : LinkWord) (r : List Byte) (s : State) (h : s.Owes r)
    (hagenda : s.agenda = .op (.l w) :: List.replicate r.length (.op .t)) :
    (∀ k, k < r.length → ∃ t, Host.Core.run core k s = .next t ∧ t.rk = s.rk ∧
      t.agenda = .op (.l w) :: List.replicate (r.length - k) (.op .t)) ∧
    ∃ t, Host.Core.run core r.length s = .next t ∧ t.Owes [] ∧ t.agenda = [.op (.l w)] := by
  induction r generalizing s with
  | nil => exact ⟨nofun, s, rfl, h, hagenda⟩
  | cons b r ih =>
    have hbusy := busy_of_owes_cons h
    have hstep := step_take (pre := [.op (.l w)]) hbusy hagenda (by simpa using link_disabled_of_busy hbusy w)
    obtain ⟨hrest, -, hmark⟩ :=
      owes_emit (s := { s with agenda := .op (.l w) :: List.replicate r.length (.op .t) }) h
    obtain ⟨hbefore, hafter⟩ := ih _ hrest (emit_agenda _)
    refine ⟨fun k hk => ?_, by rwa [List.length_cons, run_succ hstep]⟩
    cases k with
    | zero => exact ⟨s, rfl, rfl, hagenda⟩
    | succ k =>
      have hk : k < r.length := Nat.lt_of_succ_lt_succ hk
      have hnotLast : r.isEmpty = false := List.isEmpty_eq_false_iff.mpr (List.ne_nil_of_length_pos (by omega))
      obtain ⟨t, hrun, hrk, hheld⟩ := hbefore k hk
      refine ⟨t, (run_succ hstep k).trans hrun, hrk.trans ?_, ?_⟩
      · rw [emit_of_not_lastByte (hmark.trans hnotLast)]
      · rwa [List.length_cons, Nat.add_sub_add_right]

/-- Settles O48: the block owes `RLEN(RK) - IDX` bytes; once they are taken the command is alone on the agenda and enabled. -/
theorem busyHoldIsLiftedByTheSink : Obligations.BusyHoldIsLiftedByTheSink := by
  intro s w n hinv hbusy hn hagenda
  have howes : s.Owes (s.wholeReply.drop s.idx.toNat) := ⟨hinv, rfl⟩
  obtain rfl : _ = n := (owes_length howes).trans hn.symm
  obtain ⟨hbefore, t, hrun, hdone, hheld⟩ := run_takes_behind_command w _ s howes hagenda
  obtain ⟨hidle, hzero⟩ := idle_of_owes_nil hdone
  exact ⟨hbefore, t, hrun, hidle, hzero, hheld, step_head_enabled hheld ((lReady_iff t).mpr hidle)⟩

end Sys2Proof.Machine
end

section
/-! ## No exception (spec/60_exceptions.md)

Every operation has a meaning in every state, so every event and every step completes, and a run of any length goes on. -/

namespace Sys2Proof.Machine

/-- Every operation has a next state, also one that is not enabled, which waits (log entry 4). -/
theorem exec_completes (i : Instr) (s : State) : ∃ t, exec i s = .next t := by
  obtain ⟨f, -, hmeaning⟩ := exec_meaning i
  exact ⟨f s, hmeaning s⟩

theorem perform_completes (e : Event) (s : State) : ∃ t, perform e s = .next t := by
  cases e with
  | op p => exact exec_completes (decode p) s
  | drive v => exact ⟨_, rfl⟩
  | rst => exact ⟨_, rfl⟩

/-- Every step has a next state, also one that finds nothing enabled (log entry 3). -/
theorem step_completes (s : State) : ∃ t, step s = .next t := by
  obtain ⟨-, hquiet⟩ | ⟨e, rest, -, hperform⟩ := step_cases s
  · exact ⟨s.quiet, hquiet⟩
  · rw [hperform]
    exact perform_completes e { s with agenda := rest }

theorem run_completes (k : Nat) (s : State) : ∃ t, Host.Core.run core k s = .next t := by
  induction k generalizing s with
  | zero => exact ⟨s, rfl⟩
  | succ k ih =>
    obtain ⟨t, hstep⟩ := step_completes s
    rw [run_succ hstep]
    exact ih t

/-- Settles O15. -/
theorem nothingEverFaults : Obligations.NothingEverFaults :=
  ⟨exec_completes, step_completes, fun s k => run_completes k s⟩

end Sys2Proof.Machine
end

section
/-! ## Reset and hazards (spec/70_reset_and_hazards.md)

What an operation presents, said once per operation; the state after `rst`; a checksum summed into the next one. -/

namespace Sys2Proof.Machine

/-! ### The outputs of an operation (R228) -/

/-- What an operation presents: port C the new `ACC`, with the answer of `CS.VFY`; port L nothing; a byte take the reply
byte, when the block is busy. -/
def instrOut (s : State) (i : Instr) : Outputs :=
  match i with
  | .csClr | .csAdd _ | .csRd => ⟨some (instrAcc s.acc i), none, none, none⟩
  | .csVfy e => ⟨some s.acc, some (s.matches e), none, none⟩
  | .probeReady | .requestTelemetry | .probeAlt | .lUnrec _ => Outputs.silent
  | .txEmit => if s.tBusy then ⟨none, none, some (replyByte s), some s.lastByte⟩ else Outputs.silent

theorem exec_out {i : Instr} {s t : State} (h : exec i s = .next t) : t.out = instrOut s i := by
  cases i with
  | csClr | csAdd d | csRd | csVfy e => cases h; rfl
  | probeReady | requestTelemetry | probeAlt | lUnrec w =>
    cases h
    exact whenIdle_ind (P := fun t => t.out = Outputs.silent) (fun _ => rfl) rfl
  | txEmit =>
    cases h
    obtain ⟨hbusy, heq⟩ | ⟨hidle, heq⟩ := whenBusy_cases s State.emit
    · rw [heq, emit_out, instrOut, if_pos ((tBusy_iff s).mpr hbusy)]
    · simp [heq, instrOut, State.tBusy, hidle]

/-- Settles O31: a reset and a change of port F present nothing; what an operation presents is `instrOut`. -/
theorem outputsOnlyInTheirOwnStep : Obligations.OutputsOnlyInTheirOwnStep := by
  refine ⟨fun v s t h => ?event, fun i s t h => ?operation⟩
  case event =>
    obtain h | h := h
    · cases h; rfl
    · cases h; rfl
  case operation =>
    rw [exec_out h, exec_acc h]
    cases i with
    | csClr | csAdd d | csRd | csVfy e => simp [instrOut, instrAcc, Instr.format]
    | probeReady | requestTelemetry | probeAlt | lUnrec w => simp [instrOut, Outputs.silent, Instr.format]
    | txEmit => by_cases hidle : s.rk = .none <;> simp [instrOut, State.tBusy, hidle, Outputs.silent, Instr.format]

/-! ### Reset (R220, R221, R222) -/

/-- Settles O7: both states have the values by definition. -/
theorem resetGivesTheSpecsValues : Obligations.ResetGivesTheSpecsValues :=
  ⟨⟨rfl, rfl, rfl, rfl⟩, fun s => ⟨s.assertReset, rfl, assertReset_acc s, assertReset_facc s, assertReset_rk s,
    assertReset_idx s, assertReset_cfg s⟩⟩

/-- With `rst` in it an instant holds no other event (R221). -/
theorem instantEvents_of_rst {x : Instant} (h : x.rst = true) : instantEvents x = [.rst] := if_pos h

/-- Settles O8: after `rst` the block is idle, which is to be ready, not busy, complete and without a byte to take. -/
theorem resetIsEnabledAndOverrides : Obligations.ResetIsEnabledAndOverrides := by
  refine ⟨fun s => ⟨rfl, s.assertReset, rfl, ?_⟩, fun x => instantEvents_of_rst⟩
  have hready : s.assertReset.lReady = true := (lReady_iff _).mpr (assertReset_rk s)
  have hidle : s.assertReset.tBusy = false := by simpa [hready] using lReady_eq_not_tBusy s.assertReset
  have hcomplete : s.assertReset.complete = true := by rw [State.complete, hready, assertReset_idx]; rfl
  exact ⟨hready, hidle, assertReset_out s, hcomplete, hidle, assertReset_portF s, assertReset_agenda s⟩

/-! ### The reused buffer (R226) -/

/-- Settles O41: the stale byte is one more part of the message summed. -/
theorem staleSlotLeaksIntoTheSum : Obligations.StaleSlotLeaksIntoTheSum := fun old new => by
  rw [checksum_append, checksum_cons, checksum_nil, BitVec.add_zero]

end Sys2Proof.Machine
end
